-- ==== Sys2Proof/Word.lean ====
section
/-! DEFINITION. The word types of the module: the 32-bit register word (R15), the byte of frames and images (R13), and the
identifiers the manual writes as fields of fixed width. -/

namespace Sys2Proof

/-- A register or mailbox word (R15). -/
abbrev Word := BitVec 32
/-- A byte of a frame, payload, record or memory (R13). -/
abbrev Byte := BitVec 8
/-- A string of bytes, first byte first. -/
abbrev Bytes := List Byte
/-- An element identifier, or a physical tile address: region, cluster and tile (R86). -/
abbrev Elem := BitVec 12
/-- A route identifier (R70). -/
abbrev RouteId := BitVec 13
/-- A session identifier (R349). -/
abbrev SesId := BitVec 9
/-- A node identifier on the rings (R312). -/
abbrev NodeId := BitVec 12
/-- A region of a lane (R86). -/
abbrev Region := BitVec 4
/-- A field pin number, 1 to 48 (R427). -/
abbrev Pin := BitVec 6
/-- A set of lanes, bit 0 = A to bit 2 = C. -/
abbrev LaneMask := BitVec 3
/-- Element data of one payload, bit n under R353. -/
abbrev ElemData := BitVec 240
/-- The 512 configuration bits of a tile (R86). -/
abbrev TileCfg := BitVec 512
/-- A 128-bit digest or route-table entry. -/
abbrev Quad := BitVec 128

end Sys2Proof
end

