-- ==== Sys2Proof/Syntax.lean ====
section
/-! DEFINITION. The commands of the module, one constructor of `Instr` for each row of the table of operations and events,
and the data that the commands carry: frames, readings, control messages, certificates and the vital records of an EQUAL. -/

namespace Sys2Proof

/-- A lane of the module (scope, "The six levels"). -/
inductive LaneId where
  | a | b | c
  deriving DecidableEq, Repr

/-- A fibre ring (R303). -/
inductive Ring where
  | a | b
  deriving DecidableEq, Repr

/-- Network time (R22): round, slot within the round and 10 ns tick within the slot. -/
structure NetTime where
  round : BitVec 40
  slot  : BitVec 12
  tick  : BitVec 8
  deriving DecidableEq, Repr

/-- A tile port (R87). -/
inductive Port where
  | a | b | c | d
  deriving DecidableEq, Repr

/-- One value for each of the ports A to D. -/
structure Four (α : Type) where
  a : α
  b : α
  c : α
  d : α
  deriving DecidableEq, Repr

/-- One value for each of the lanes A to C. -/
structure Three (α : Type) where
  a : α
  b : α
  c : α
  deriving DecidableEq, Repr

/-- A frame as a ring port receives or sends it (R311): link header, payload, link CRC, and whether every symbol was valid. -/
structure Frame where
  hdr     : BitVec 64
  payload : Bytes
  crc     : Word
  symOk   : Bool
  deriving DecidableEq, Repr

/-- Bytes 0 to 5 of an entry of the force and blocking table (R482), as FORCE_SET, BLOCK_SET and FORCE_CLEAR carry them. -/
structure ForceArg where
  target : BitVec 16
  type   : Byte
  first  : Byte
  width  : Byte
  value  : Byte
  deriving DecidableEq, Repr

/-- The sizes of a write to FEED (R356). -/
inductive FeedSize where
  | byte | half | word
  deriving DecidableEq, Repr

/-- The path on which a pair message arrives (R382, R384). -/
inductive PairSrc where
  | link | ringA | ringB
  deriving DecidableEq, Repr

/-- The readback of one output channel (R446): element conduction as in PIN_SW bits 11:0 (R466), the voltages of the odd
and even pin in mV and the currents of the high and return side in mA. -/
structure Reading where
  pin   : Pin
  elems : BitVec 12
  vOdd  : BitVec 16
  vEven : BitVec 16
  iHigh : BitVec 16
  iRet  : BitVec 16
  deriving DecidableEq, Repr

/-- The supply voltage in mV and output current in mA of one group (R465). -/
structure Supply where
  group : BitVec 3
  volt  : BitVec 16
  curr  : BitVec 16
  deriving DecidableEq, Repr

/-- What opening the other energized channels shows of a channel that does not read off (R451). -/
inductive ProbeResult where
  /-- Opening the channel named by this odd pin removed the energy. -/
  | tied (other : Pin)
  /-- The odd pin carries the voltage. -/
  | supply
  /-- The even pin lies below 2.0 V. -/
  | zero
  deriving DecidableEq, Repr

/-- A source of staging messages (R514): the service port, or a control-port client by its digest. -/
inductive Source where
  | service
  | client (digest : BitVec 48)
  deriving DecidableEq, Repr

/-- A control message (R638) without its length: TYPE, MSG_ID and arguments. -/
structure CtlMsg where
  type  : BitVec 16
  msgId : Word
  args  : Bytes
  deriving DecidableEq, Repr

/-- The role that a client certificate sets (R637). -/
inductive ClientRole where
  | control | authority | maint
  deriving DecidableEq, Repr

/-- What the module examines of a certificate (R636, R637): issuer, validity period in seconds of UTC, role, digest. -/
structure Cert where
  issuer    : BitVec 48
  notBefore : Nat
  notAfter  : Nat
  role      : Option ClientRole
  digest    : BitVec 48
  deriving DecidableEq, Repr

/-- The cipher suites of TLS 1.3 as R636 divides them. -/
inductive CipherSuite where
  | aes128gcmSha256 | aes256gcmSha384 | other
  deriving DecidableEq, Repr

/-- The key exchange groups as R636 divides them. -/
inductive KeyGroup where
  | x25519 | secp256r1 | other
  deriving DecidableEq, Repr

/-- The signature schemes as R636 divides them. -/
inductive SigScheme where
  | ed25519 | ecdsaSecp256r1Sha256 | other
  deriving DecidableEq, Repr

/-- What a client offers when it opens a session (R636): `tls13` is false for any other version, `resumes` is true for early
data, session resumption or a pre-shared key. -/
structure TlsHello where
  tls13   : Bool
  suite   : CipherSuite
  group   : KeyGroup
  scheme  : SigScheme
  resumes : Bool
  cert    : Option Cert
  deriving DecidableEq, Repr

/-- The end of one slice budget of the wrap test in one lane or in the module (R569 to R572): pattern counter, signature
register, corrections made, and whether a transparent slice met an uncorrectable codeword. -/
structure SliceRun where
  patterns : BitVec 24
  sig      : BitVec 64
  dataCorr : Nat
  chkCorr  : Nat
  uncorr   : Bool
  deriving DecidableEq, Repr

/-- The 64-bit vital state vector of a tile (R89), field by field; bits 7 and 23 are 0 and carry nothing. -/
structure TileVec where
  pers     : BitVec 4
  restrict : Bool
  forced   : Bool
  fault    : Bool
  route    : RouteId
  hold     : BitVec 2
  tmr      : BitVec 16
  pstate   : BitVec 24
  deriving DecidableEq, Repr

/-- The record of one session (R369). -/
structure SesRec where
  ses        : SesId
  enabled    : Bool
  fresh      : Bool
  ever       : Bool
  claimAhead : Bool
  diff       : Bool
  timeout    : Bool
  age        : Byte
  rxRound    : BitVec 40
  echo       : Word
  rxClaim    : Word
  txTake     : Word
  txClaim    : Word
  force      : Bool
  paired     : Bool
  sending    : Bool
  deriving DecidableEq, Repr

/-- An entry of the emergency-release table (R215, R216): armed in `armTake`, and running once ERL_EXEC has loaded `tmr`. -/
structure ErlEntry where
  route   : RouteId
  armTake : Word
  running : Bool
  tmr     : BitVec 16
  expired : Bool
  deriving DecidableEq, Repr

/-- A route request of the agreed request set (R219), with the command it came from. -/
structure Request where
  route : RouteId
  seq   : Word
  item  : Nat
  deriving DecidableEq, Repr

/-- The kinds of command whose outcome a lane reports; the codes of a kind are those of the rule it names. -/
inductive OutcomeKind where
  /-- R218: route request, cancel, emergency release, batch item. -/
  | route
  /-- R545. -/
  | mailbox
  /-- R548. -/
  | service
  /-- R486: force, blocking and mode commands. -/
  | force
  /-- R286: splice commands. -/
  | splice
  /-- R277: enables; the code is the reason code of R280. -/
  | enable
  deriving DecidableEq, Repr

/-- One outcome of the take (record 7, R233): the command's SEQ and item, what it names, and the outcome with its cause. -/
structure CmdOutcome where
  kind  : OutcomeKind
  seq   : Word
  item  : Nat
  what  : BitVec 16
  code  : Byte
  cause : BitVec 3
  deriving DecidableEq, Repr

/-- An entry of the force and blocking table (R482); an entry that is present is VALID. -/
structure ForceEntry where
  target : Elem
  type   : Byte
  first  : Byte
  width  : Byte
  value  : Byte
  take   : Word
  deriving DecidableEq, Repr

/-- The stages of a splice (R285). -/
inductive SpliceStage where
  | none | barred | loading | checked | scheduled | settling
  deriving DecidableEq, Repr

/-- The role of a computing module (R389). -/
inductive Role where
  | none | lead | second
  deriving DecidableEq, Repr

/-- The telegram payload that a latch holds for one session (R358): the bytes but SEQ and SAFETY. -/
structure LatchPayload where
  ses    : SesId
  claim  : Word
  take   : Word
  force  : Bool
  paired : Bool
  elem   : ElemData
  deriving DecidableEq, Repr

/-- An output latch (R35, record 9): telegram payloads and the command bit of each field pin (bit p - 1 for pin p). -/
structure OutLatch where
  payloads : List LatchPayload
  pins     : BitVec 48
  deriving DecidableEq, Repr

/-- The take header, record 1 of a checkpoint (R233). -/
structure TakeHdr where
  takeNum   : Word
  nCur      : BitVec 6
  nPend     : BitVec 6
  pendRound : BitVec 40
  start     : NetTime
  role      : Role
  claim     : Word
  deriving DecidableEq, Repr

/-- Region state, record 4 of a checkpoint (R234). `settle` names (region, gateway, count); `sched` says that a commit
take is recorded, which may be take 0 (R24). -/
structure RegionState where
  regEn       : BitVec 16
  regRestrict : BitVec 16
  active      : BitVec 16
  rtActive    : Bool
  rtShadow    : Bool
  stage       : SpliceStage
  spliceSet   : BitVec 16
  commitTake  : Word
  sched       : Bool
  rstDis      : BitVec 16
  shadow      : BitVec 16
  grpEn       : BitVec 6
  settle      : List (Region × BitVec 6 × BitVec 2)
  deriving DecidableEq, Repr

/-- The inputs that P0 latches (R28): field inputs and restriction mask, fresh session data, items of the rushes. -/
structure Snapshot where
  inX     : BitVec 48
  rmask   : BitVec 48
  sesIn   : List (SesId × ElemData)
  release : List Elem
  close   : List Elem
  reset   : List Elem
  deriving DecidableEq, Repr

/-- The vital state that the full vital state digest covers: records 1 to 9 of a checkpoint (R223, R233). -/
structure Vital where
  hdr      : TakeHdr
  inputs   : Snapshot
  vec      : List (Elem × TileVec)
  reg      : RegionState
  ses      : List SesRec
  erl      : List ErlEntry
  pending  : List Request
  outcomes : List CmdOutcome
  force    : List ForceEntry
  latch    : OutLatch
  deriving DecidableEq, Repr

/-- A token step of a lane's sequencer as the lockstep monitor compares it (R246): the instruction address, the result value with its
destination, and a memory write with address and data. `read` is the data that the step has read, with its check symbols (R247). -/
structure TokenStep where
  addr   : Word
  result : Word
  dest   : Word
  write  : Option (Word × Word)
  read   : Option Bytes
  deriving DecidableEq, Repr, Inhabited

/-- A message of a tunnel channel (R653): an ordered message relayed to the lead (R643), an order list (R644), or an activation
message (R524). -/
inductive TunnelMsg where
  | relay (client : BitVec 48) (role : ClientRole) (msg : CtlMsg)
  | orders (claim : Word) (msgs : List (List Word))
  | actReq (digest : Quad) (round : BitVec 40) (kind : BitVec 2) (parts : List NodeId)
  | prepare (digest : Quad) (round : BitVec 40) (kind : BitVec 2) (parts : List NodeId)
  | ready (digest : Quad)
  | refuse (digest : Quad) (cause : Byte)
  | commit (digest : Quad)
  | abort (digest : Quad) (cause : Byte)
  deriving DecidableEq, Repr

/-- One command of the module: one constructor for each row of the table of operations and events, in its order. -/
inductive Instr where
  | takeStart (round : BitVec 40) (marked : Bool)
  | rushes
  | waveStep (lane : LaneId) (ns : Nat)
  | trackClearDelayExpiry (elem : Elem)
  | berthDelayExpiry (elem : Elem)
  | pointMoveTimeout (elem : Elem)
  | proveGraceExpiry (elem : Elem)
  | closeSupervisionExpiry (elem : Elem)
  | permissionDelayExpiry (elem : Elem)
  | approachLockingExpiry (elem : Elem)
  | erlExpiry (route : RouteId)
  | erlWindowLapse (route : RouteId)
  | exchangePoint
  | latchPoint
  | deadline
  | boundaryPoint (incomplete : LaneMask)
  | scrubStep (lane : LaneId) (count : Nat)
  | routeRequest (route : RouteId)
  | cancel (route : RouteId)
  | pointCallNormal (elem : Elem)
  | pointCallReverse (elem : Elem)
  | doorRelease (elem : Elem)
  | doorClose (elem : Elem)
  | plungerReset (elem : Elem)
  | erlArm (route : RouteId)
  | erlExec (route : RouteId)
  | regionEn (region : Region)
  | regionDis (region : Region)
  | sessionEn (ses : SesId)
  | sessionDis (ses : SesId)
  | groupEn (group : BitVec 3)
  | groupDis (group : BitVec 3)
  | checkSlice
  | spliceBar (set : BitVec 16)
  | spliceLoad
  | shadowLoad (lane : LaneId)
  | spliceSchedule (take : Word)
  | spliceAbort
  | spliceCommit
  | spliceSettled
  | modeVital
  | modeCommission
  | forceSet (entry : ForceArg)
  | blockSet (entry : ForceArg)
  | forceClear (entry : ForceArg)
  | laneReset (lane : LaneId)
  | laneWrap (lane : LaneId)
  | restart
  | areaNotice (digest : BitVec 64)
  | lockstepBreak (lane : LaneId)
  | debugRequest (lane : LaneId)
  | laneRecoveryReady (lane : LaneId)
  | frameReceive (ring : Ring) (rev : Bool) (slot : BitVec 12) (ofs : Int) (frame : Frame)
  | frameSend (slot : BitVec 12)
  | payloadDeadline (ses : SesId) (late : LaneMask)
  | timingSet (ring : Ring) (outPort : Bool) (path : BitVec 24) (hold : BitVec 16) (flags : Byte) (crc : Byte) (rtt : Nat)
  | hopLost (ring : Ring) (outPort : Bool)
  | fallSilent
  | terminationEnd
  | coldListenEnd
  | backoffEnd
  | starter
  | sesRx
  | checkStart (lane : LaneId) (rx : Bool)
  | checkFeed (lane : LaneId) (rx : Bool) (size : FeedSize) (value : Word)
  | checkResult (lane : LaneId) (rx : Bool)
  | heartbeat (node : NodeId) (mode : BitVec 4) (rxUp : Bool) (valid : Bool)
  | pairLinkDown
  | pairLinkUp
  | digest (src : PairSrc) (node : NodeId) (take : Word) (claim : Word) (digest : Quad) (valid : Bool)
  | agree (take : Word) (digest : Quad) (valid : Bool)
  | health (src : PairSrc) (payload : Bytes)
  | tlen (len : BitVec 6) (valid : Bool)
  | demote (node : NodeId) (valid : Bool)
  | resign (node : NodeId) (valid : Bool)
  | leadResignTimeout
  | equal (vital : Vital) (digest : Quad) (valid : Bool)
  | partnerLost
  | witnessBroadcast (payload : Bytes)
  | witnessDecide (storeOk : Bool)
  | witnessLost
  | selfTest (test : BitVec 3) (pass : Bool)
  | wrapStartDecision
  | standinTimeout
  | cueEdge
  | fieldSnapshot (good : LaneMask)
  | fieldReadback (readings : List Reading) (supplies : List Supply)
  | overcurrent (pin : Pin)
  | shortLoad (pin : Pin)
  | groupOverload (group : BitVec 3)
  | detectorProof (failed : List Pin) (groups : BitVec 6)
  | offChannelProbe (pin : Pin) (result : ProbeResult)
  | groupSag (group : BitVec 3)
  | sagRecover (group : BitVec 3)
  | filteredInputChange (pin : Pin) (y : Bool) (level : Bool)
  | periodMeasure (pin : Pin) (time : Nat)
  | periodTimeout (pin : Pin)
  | cntSnap
  | cntPreset (n : BitVec 4) (value : Word)
  | refreshToken (lane : LaneId) (count : BitVec 16) (crcOk : Bool)
  | refreshSilence (lane : LaneId)
  | refreshResume
  | powerOn
  | reloadDone
  | verifyComplete
  | cutRestart
  | restartSettleEnd
  | rateTokenRefill (code : Byte)
  | dailies (day : Word)
  | reelClear (readTo : Word) (digest : BitVec 48)
  | reelRead (first : BitVec 23) (count : BitVec 12)
  | rateCfgWrite (value : Word)
  | stageOpen (src : Source) (manifest : Bytes)
  | stageBlock (src : Source) (n : BitVec 9) (data : Bytes)
  | stageClose (src : Source)
  | stageDiscard (src : Source) (authorised : Bool)
  | stagingLapse
  | copyBlock (readable : Bool)
  | actSchedule (round : BitVec 40) (digest : Quad)
  | actCancel
  | actLocal
  | actReq (digest : Quad) (round : BitVec 40) (kind : BitVec 2) (parts : List NodeId)
  | prepare (digest : Quad) (round : BitVec 40) (kind : BitVec 2) (parts : List NodeId)
  | actReady (node : NodeId) (digest : Quad)
  | actRefuse (node : NodeId) (digest : Quad) (cause : Byte)
  | actCommit (digest : Quad)
  | actAbort (digest : Quad) (cause : Byte)
  | actDeadline
  | noDecisionAbort
  | serviceCommit
  | actRoundReached
  | rollResign
  | rollWitnessRestart
  | rollHalted
  | mailboxGo (master : BitVec 3) (k : BitVec 2) (len : BitVec 5)
  | wakePowerOff (lane : LaneId)
  | mailboxCompare
  | laneMessage (lane : LaneId) (m : BitVec 2) (words : List Word)
  | laneMailboxRead (lane : LaneId) (m : BitVec 2)
  | coordWatchdog
  | coordRestartDone
  | evtSwset (value : Word)
  | semLockRead (master : BitVec 3) (i : BitVec 5)
  | semLockWrite (master : BitVec 3) (i : BitVec 5) (value : Word)
  | semForce (master : BitVec 3) (value : Word)
  | wrapSliceEnd (a : SliceRun) (b : SliceRun) (c : SliceRun)
  | pmcCfgWrite (value : Word)
  | pmcFreeze (value : Word)
  | pmcRelease (value : Word)
  | pmcFrozen
  | pmcClear
  | pmcPreset (value : Word)
  | pmcValRead
  | pmcFrzRead
  | takeStartRead
  | marginLowClr (value : Word)
  | wrapWinWrite (value : Word)
  | registerWrite (master : BitVec 3) (addr : Word) (size : BitVec 4) (value : Word)
  | feedLost (feedB : Bool)
  | feedRestored (feedB : Bool)
  | powerFail
  | supplyDip
  | holdupMeasure (time : BitVec 12) (vcap : BitVec 10)
  | railOut (lane : LaneId) (inWin : BitVec 4)
  | railRecover (lane : LaneId)
  | thermalShutdown (lane : LaneId)
  | thermalRestart (lane : LaneId)
  | tempHigh (sensor : BitVec 3) (reading : BitVec 16)
  | lineMismatch (sense : BitVec 4)
  | intrusion
  | enrolSwitch
  | enrolClose
  | enrolKeygen
  | enrolCert (cert : Cert)
  | enrolKeyslot (k : BitVec 2) (key : Option (BitVec 256)) (agree : Bool)
  | tlsOpen (cp2 : Bool) (hello : TlsHello)
  | sessionIdleClose (sid : Nat)
  | batch (sid : Nat) (msgId : Word) (items : List (BitVec 16))
  | propose (sid : Nat) (msgId : Word) (msg : CtlMsg)
  | confirm (sid : Nat) (msgId : Word) (digest : Quad)
  | proposalLapse (digest : Quad)
  | tunnelRelay (client : BitVec 48) (role : ClientRole) (msg : CtlMsg)
  | orderPoint
  | orderList (claim : Word) (msgs : List (List Word))
  | snapshotReq (sid : Nat) (msgId : Word)
  | timeReq (sid : Nat) (msgId : Word)
  | ptpSync (cp2 : Bool) (domain : Byte) (rank : Nat) (offset : Int) (utcOffset : Int) (utc : Nat)
  | utcUnlock
  | serviceLinkDrop
  | filterTick (pin : Pin) (x : Bool) (y : Bool)
  | holdupCharged
  | reelClearDone
  | reelFlushDone
  | debugDetach (lane : LaneId)
  | coordinatorRailOut
  | slateMissed
  | wrapWindowClose
  | tlsSessionClose (sid : Nat)
  deriving DecidableEq, Repr

end Sys2Proof
end

