-- ==== Sys2Proof/Config.lean ====
section
/-! DEFINITION. What a unit or its maker fixes and the spec leaves open: opaque constants, so that nothing can be proved
about their values. -/

namespace Sys2Proof.Config

open Sys2Proof

/-- The witness is a CX-4096 with a witness image of its own (R524), which nothing that the module reads says. DESIGN CHOICE: free
(log 32; safe). -/
opaque witnessModule : Bool
/-- VARIANT of the ID register (R490), per unit. DESIGN CHOICE: free (log 4; safe). -/
opaque variant : BitVec 2
/-- SERIAL (R488), per unit. DESIGN CHOICE: free (log 4; safe). -/
opaque serial : Word
/-- The unit's node identifier, whose source the spec does not name. DESIGN CHOICE: free (log 4; safe). -/
opaque nodeId : NodeId
/-- The bytes of a tunnel message (R653), whose layout the spec does not give. DESIGN CHOICE: free (log 28; safe). -/
opaque tunnelBytes (m : TunnelMsg) : Bytes
/-- The outcome of a quiescence within 25 us of a check point (R42): whether free value number `n` counts as met. DESIGN
CHOICE: free (log 5; safe). -/
opaque coincide (n : Nat) : Bool
/-- The voter's two comparator channels disagree on an outcome of the vote with free value number `n` (R222): a fault of the unit, which
the table has no row for. DESIGN CHOICE: free (log 123; safe). -/
opaque channelsDiffer (n : Nat) : Bool
/-- A lane's pair-agreement digest is not ready at X (R386): how long a lane computes it, the spec does not give. DESIGN CHOICE: free
(log 124; safe). -/
opaque digestLate (n : Nat) : Bool
/-- HOLD of the `n`-th timing set that a port sends (R308), in ns. DESIGN CHOICE: free (log 114; safe). -/
opaque timingHold (n : Nat) : BitVec 16
/-- Token step number `n` of the lanes' sequencers (R244): what their code is, the spec does not give. DESIGN CHOICE: free (log 120;
safe). -/
opaque tokenStep (n : Nat) : TokenStep
/-- Bytes of record 1 (R233), whose layout the spec does not give. DESIGN CHOICE: free (log 6; safe). -/
opaque record1 (h : TakeHdr) : Bytes
/-- The input snapshot as SHA-512 takes it for record 2 (R233); layout not given. DESIGN CHOICE: free (log 6; safe). -/
opaque snapshotBytes (i : Snapshot) : Bytes
/-- Bytes of record 6 (R233); layout not given. DESIGN CHOICE: free (log 6; safe). -/
opaque record6 (l : List ErlEntry) : Bytes
/-- Bytes of record 7 (R233); layout not given. DESIGN CHOICE: free (log 6; safe). -/
opaque record7 (r : List Request) (o : List CmdOutcome) : Bytes
/-- Bytes of record 10 (R233), which hold the station digest (R475); layout not given. DESIGN CHOICE: free (log 6; safe). -/
opaque record10 (station : BitVec 64) : Bytes
/-- The reference signature of a wrap-test slice (R570), fixed in the ROM. DESIGN CHOICE: free (log 7; safe). -/
opaque refSignature (slice : Nat) : BitVec 64
/-- The terminal count of a wrap-test slice (R570), fixed in the ROM. DESIGN CHOICE: free (log 7; safe). -/
opaque terminalCount (slice : Nat) : BitVec 24
/-- The instruction address at which free value number `n` of the samples lands (R600): what the lanes' code is, the spec does not
give. DESIGN CHOICE: free (log 33; safe). -/
opaque sampleAddr (n : Nat) : Word
/-- Measurement number `n` of a feed, in the form of FEED_A and FEED_B (R629): the table has no row that carries one. DESIGN CHOICE:
free (log 36; safe). -/
opaque feedReading (n : Nat) : Word
/-- Region and codeword of the `n`-th uncorrectable codeword that a transparent slice reports (R571, R579): the table has no row that
carries them. DESIGN CHOICE: free (log 38; safe). -/
opaque nvCodeword (n : Nat) : BitVec 24
/-- What stands in the Lane field of a Reel record that concerns no single lane (R498): a CUT or the start of a test of the whole module,
or a store of the module. DESIGN CHOICE: free (log 38; safe). -/
opaque moduleLane : Byte
/-- The Holtat firmware key in the ROM of each lane (R263). DESIGN CHOICE: free (log 8; safe). -/
opaque firmwareKey : BitVec 256
end Sys2Proof.Config
end

