-- ==== Sys2Proof/Machine/State.lean ====
section
/-! DEFINITION. The state of the module: every register, memory, FIFO, counter, mode and line the spec gives it, as plain
data, the queue of waiting commands, and the state right after reset. A field's comment names the rule that gives it. -/

namespace Sys2Proof.Machine

open Sys2Proof

/-- Why the module would stop with a fault: never. The spec gives every command of the table an effect, a refusal outcome or
no effect, each of which is a next state; so this type has no constructor (nothing raises it; safe). -/
inductive Fault where
  deriving DecidableEq, Repr

/-- Why the model has no meaning for a command. -/
inductive Refusal where
  /-- Raised by `exec` alone, for a command whose meaning is not written; no command is left so (safe). -/
  | notModelled (mnemonic : String)
  deriving DecidableEq, Repr

/-- The module modes (R8, R468). -/
inductive Mode where
  | off | standIn | boot | verify | ready | integrating | vital | degraded | cut | commissioning | witness
  deriving DecidableEq, Repr

/-- The lane states (R10). -/
inductive LaneState where
  | active | excluded | recovering | shutdown | unusable
  deriving DecidableEq, Repr

/-- The phases of a take (R28). -/
inductive Phase where
  | p0 | p1 | p2 | p3 | p4 | p5 | p6
  deriving DecidableEq, Repr

/-- A byte memory: (address, byte) cells in one canonical form (see Memory.wf in Machine/Ops.lean). -/
abbrev Memory := List Host.Cell

/-! ### The fabric -/

/-- A token (R70). -/
structure Token where
  kind  : BitVec 3
  route : RouteId
  arg   : BitVec 4
  deriving DecidableEq, Repr

/-- The modes of a request wave (R186). -/
inductive ReqMode where
  | new | held | overlap | flank
  deriving DecidableEq, Repr

/-- The wave register of a tile (R185). `ps` holds (ARG, PERS); `atEnd` is END with `xRoute` its route, `xWait` the awaited
overlap answer and `xOvl` an overlap that answered CONFIRM; `ok`, `go`, `flank` are the accumulators. The fields from `mode`
on are what the waves of R195 to R206 need to carry out "await its answer" and the like; they stand and fall with the wave
register. -/
structure WaveReg where
  ps       : Four (Option (BitVec 4 × BitVec 4))
  isNew    : Bool
  passed   : Bool
  inPort   : Option Port
  rport    : Option Port
  wait     : Four Bool
  best     : Option (BitVec 3)
  ok       : Bool
  go       : Bool
  flank    : Bool
  atEnd    : Bool
  ovlEnd   : Bool
  take     : Four Bool
  mode     : ReqMode
  conf     : Four Bool
  rej      : Four Bool
  barIn    : Four Bool
  bar1     : Four Bool
  flankWait : Bool
  sideFrom : Option Port
  ovlFor   : Option RouteId
  xRoute   : Option RouteId
  xWait    : Bool
  xOvl     : Bool
  couple   : Option (RouteId × Bool × Bool)
  chkPort  : Option Port
  chkMode  : BitVec 2
  chkFlank : Bool
  chkSide  : Option Port
  sideOk   : Bool
  sentArg  : Option (BitVec 4 × BitVec 4)
  timed    : Bool
  aspect   : Bool
  aspStart : BitVec 3
  deriving DecidableEq, Repr

/-- A tile of a lane: physical address, configuration latches (R91), wave register, the tokens on its output channels and
the token queue of each port (R193). Its state vector stands in `Vital.vec` under its element identifier. -/
structure Tile where
  addr  : Elem
  cfg   : TileCfg
  wr    : WaveReg
  out   : Four Token
  queue : Four (List Token)
  deriving DecidableEq, Repr

/-- A route latch (R181): the data that the route fetch unit loads into a SIGNAL for the take. -/
structure RouteLatch where
  elem     : Elem
  route    : RouteId
  cls      : BitVec 4
  doorDep  : Bool
  flank    : Bool
  appr     : BitVec 16
  cancel   : Bool
  erl      : Bool
  admitted : Bool
  deriving DecidableEq, Repr

/-- An exit mark (R181). -/
structure ExitMark where
  elem     : Elem
  route    : RouteId
  ovlLen   : BitVec 2
  ovlClass : BitVec 2
  viaEn    : Bool
  flank    : Bool
  free     : Bool
  live     : Bool
  deriving DecidableEq, Repr

/-- An individual point call of the rushes (R153): element, position (true = reverse) and the command it came from. -/
structure PointCall where
  elem    : Elem
  reverse : Bool
  seq     : Word
  item    : Nat
  issued  : Bool
  deriving DecidableEq, Repr

/-- The fabric of a lane in the running take: tiles in ascending element identifier, phase and wave step, measured times, the
latches and marks of the rushes (R182), which do not belong to the vital state, and the commands of the take whose outcome the
waves give: individual point calls, admitted requests and cancels; `taken` counts the requests examined (R31). -/
structure Fabric where
  tiles    : List Tile
  phase    : Phase
  step     : Nat
  running  : Bool
  quiet    : Bool
  stuck    : Bool
  phaseNs  : Nat
  settleNs : Nat
  durs     : List Nat
  regionNs : List (Region × Phase × Nat)
  latches  : List RouteLatch
  exits    : List ExitMark
  vias     : List (Elem × RouteId)
  calls    : List PointCall
  admitted : List Request
  cancels  : List Request
  taken    : Nat
  deriving DecidableEq, Repr

/-! ### A lane -/

/-- The condition of a lane: state, exclusion cause and counts (R231, R240), debug and lockstep status (R249, R258), domain
power (R547) and readiness for equalization (R236). `steps` are the token steps that the main core has retired and Continuity has not
(R244): their writes stand in the write buffer (R246), the codewords that they read in the replay buffer (R247). `joins`: the lane has
become ACTIVE in the last boundary work, and its votes apply from the next take start on (R239). -/
structure LaneStat where
  state     : LaneState
  held      : Bool
  cause     : Byte
  causeTake : Word
  exclCnt   : Word
  exclTakes : List Word
  matchCnt  : BitVec 2
  failCnt   : BitVec 2
  dbg       : Bool
  domainOn  : Bool
  wokenAt  : Option Word
  ready     : Bool
  running   : Bool
  waiting   : Bool
  steps     : List TokenStep
  joins     : Bool
  resetReq  : Bool
  wrapReq   : Bool
  reload    : Bool
  deriving DecidableEq, Repr

/-- The configuration memory of a lane (R90, R95) and its scrub (R97 to R101): the next codeword, the take of the last one, whether
every codeword of the visit before it has been scrubbed, the region readback digests, and the take whose work ended with the last
of them. -/
structure LaneMem where
  cells     : Memory
  scrubReg  : Region
  scrubCw   : Nat
  scrubTake : Option Word
  scrubAll  : Bool
  rdig      : List (Region × BitVec 64)
  rdigTake  : Option Word
  corr      : Word
  chkRep    : Word
  uncorr    : Word
  latchRep  : Word
  loaded    : Nat
  loadTake  : Option Word
  deriving DecidableEq, Repr

/-- Margin and fabric supply of a lane (R44, R47, R53, R63). -/
structure LaneAdapt where
  margin  : BitVec 10
  region  : Region
  phase   : BitVec 3
  step    : BitVec 3
  sinceUp : Nat
  relax   : Nat
  valid   : Bool
  deriving DecidableEq, Repr

/-- A frame that the receive path holds for a session (R361). -/
structure RxFrame where
  round   : BitVec 40
  stamp   : NetTime
  seq     : Word
  claim   : Word
  echo    : Word
  elem    : ElemData
  diff    : Bool
  timeout : Bool
  deriving DecidableEq, Repr

/-- The receive path's record of one session (R361, R362) with its counters (R374). `next` holds a frame stamped at or after
the dividing line of the running take (R363). -/
structure RxSes where
  ses      : SesId
  frame    : Option RxFrame
  next     : Option RxFrame
  seed     : Option Word
  ever     : Bool
  ahead    : Bool
  sent     : Option Word
  acked    : Bool
  rxOk     : Word
  codeErr  : Word
  wordErr  : Word
  seqErr   : Word
  ackMiss  : Word
  stale    : Word
  deriving DecidableEq, Repr

/-- A lane's copy of a broadcast mailbox (R540, R542, R544). -/
structure MbxCopy where
  words   : List Word
  len     : BitVec 5
  full    : Bool
  cmp     : Option Bool
  deriving DecidableEq, Repr

/-- A lane mailbox (R540, R550). -/
structure LaneBox where
  words : List Word
  len   : BitVec 5
  full  : Bool
  deriving DecidableEq, Repr

/-- A running consistency check (R273 to R278): scope, item, next slice, and the SEQ of the command that started it. `set` is
the set of regions that a splice commit or service load reloads. `result` is its end, reason code and item, which the boundary
work of the take latches (R275, R277). -/
structure Check where
  scope  : BitVec 3
  item   : BitVec 16
  set    : BitVec 16
  slice  : Nat
  start  : Word
  seq    : Word
  result : Option (Byte × BitVec 16)
  deriving DecidableEq, Repr

/-- A checkpoint slot (R232, R233): records 1 to 9, the station digest of record 10 and record 11. -/
structure Checkpoint where
  vital   : Vital
  station : BitVec 64
  digest  : Quad
  deriving DecidableEq, Repr

/-- The restart store of a lane (R480), with the unusable marks of R574 and the consecutive passes of the marked region. -/
structure RestartStore where
  commissioning : Bool
  blocks   : List ForceEntry
  disabled : BitVec 16
  cuts     : List NetTime
  unusable : BitVec 16
  passes   : BitVec 2
  deriving DecidableEq, Repr

/-- What a lane holds of the active image (R520): manifest figures and the tables beside the planes. -/
structure StationData where
  nCfg       : BitVec 6
  nMax       : BitVec 6
  sImg       : BitVec 16
  warmAge    : BitVec 16
  routeCount : BitVec 16
  sesCount   : BitVec 16
  logDigest  : Bytes
  place      : Three Bytes
  station    : BitVec 64
  timers     : List (BitVec 16)
  callSheet  : List (BitVec 64)
  sessions   : List (BitVec 64)
  pins       : List Word
  groups     : List Word
  relocs     : List (Byte × Bytes)
  witness    : Bytes
  deriving DecidableEq, Repr

/-- Results of the last wrap test of a lane (R573, R583, R585). -/
structure LaneWrap where
  verdict  : BitVec 2
  failing  : List Nat
  failed   : BitVec 8
  failCnt  : BitVec 8
  runs     : List (Nat × SliceRun)
  deriving DecidableEq, Repr

/-- A Reel record without WCNT and CHECK: code, flags, source, stamp and data (R496). -/
structure RecBody where
  code   : Byte
  mask   : LaneMask
  source : BitVec 4
  stamp  : BitVec 64
  data   : Bytes
  deriving DecidableEq, Repr

/-- One lane of the module. `disabled` is the lane's copy of the regions disabled by command, which the restart store takes in
the boundary work (R480). -/
structure Lane where
  stat     : LaneStat
  fab      : Fabric
  mem      : LaneMem
  adp      : LaneAdapt
  vit      : Vital
  check    : Option Check
  ckptA    : Option Checkpoint
  ckptB    : Option Checkpoint
  ckptLast : Bool
  store    : RestartStore
  disabled : BitVec 16
  data     : StationData
  rx       : List RxSes
  mbx      : List MbxCopy
  boxes    : List LaneBox
  unsent   : List (BitVec 2 × List Word)
  accTx    : Word
  accRx    : Word
  txBuf    : List (SesId × Bytes)
  eff      : OutLatch
  verify   : BitVec 4
  verifyOk : Bool
  wrap     : LaneWrap
  rails    : BitVec 4
  thermal  : Bool
  railCnt  : BitVec 16
  snap     : Bool
  digest   : Quad
  pairDig  : Option Quad
  keys     : List (Option (BitVec 256))
  witStore : Option (Word × NodeId)
  report   : List RecBody
  noticed  : Bool
  sample   : Word
  deriving DecidableEq, Repr

/-! ### Module level -/

/-- Where the running take stands. -/
inductive TakePoint where
  | idle | started | rushed | exchanged | latched | deadline
  deriving DecidableEq, Repr

/-- Take sequencing, adaptation and their registers (01). `held` are the commands of the rushes that came outside P0 and wait for
the next one (R30); `boundDue` says that B of the take that has ended is still to come (R32). -/
structure TakeSt where
  nCur       : BitVec 6
  nPend      : BitVec 6
  pendRound  : BitVec 40
  num        : Word
  start      : NetTime
  point      : TakePoint
  ran        : Bool
  first      : Bool
  follows    : Bool
  held       : List Instr
  boundDue   : Bool
  indOld     : Option (List (Elem × TileVec))
  margin     : BitVec 10
  mCfg       : BitVec 10
  laneMin    : BitVec 2
  marginLow  : BitVec 10
  good       : BitVec 10
  low        : BitVec 4
  atMax      : Bool
  lenCnt     : Word
  ovrCnt     : Word
  ovrLast    : Word
  ownReq     : BitVec 6
  partReq    : Option (BitVec 6)
  partNew    : Bool
  startHi    : Word
  deriving DecidableEq, Repr

/-- Mode, role, restart and force registers (12). -/
structure SysSt where
  mode       : Mode
  role       : Role
  commissioning : Bool
  vitalEn    : Bool
  reason     : Word
  reasonTake : Word
  restart    : Word
  cold       : BitVec 16
  warm       : BitVec 16
  autoBlocked : Bool
  autoStart  : Bool
  cutAt      : NetTime
  modePend   : Option Bool
  settling   : Bool
  settleLeft : Nat
  forceSel   : Byte
  fwVersion  : Word
  imgId      : Word
  imgVersion : Word
  deriving DecidableEq, Repr

/-- The integration states of a node (R344). -/
inductive Sync where
  | notStarted | listening | backingOff | integrating | integrated | silent
  deriving DecidableEq, Repr

/-- One stream of a ring as the node receives it (R304, R306, R309, R327, R329): whether it is in use, the run of slates through it and
the round of the last, its path delay in ns, and its grid. The grid lies `phase` eighths of a ns after the node's own oscillator, which
the first slate sets to 0, and drifts `rate` eighths of a ns against it in a round. -/
structure StreamSt where
  use    : Bool
  slates : BitVec 2
  last   : BitVec 40
  path   : BitVec 24
  grid   : Bool
  phase  : Int
  rate   : Int
  deriving DecidableEq, Repr

/-- The ports and streams of one ring (R306, R308, R309, R345): the forward stream comes in at the in port, the reverse stream at the out
port. -/
structure RingSt where
  inSignal  : Bool
  outSignal : Bool
  fwd       : StreamSt
  rev       : StreamSt
  hopIn     : BitVec 16
  hopOut    : BitVec 16
  rxOk      : Word
  crcErr    : Word
  winRej    : Word
  deriving DecidableEq, Repr

/-- A DIGEST received from the partner for the running take. -/
structure PartDigest where
  src    : PairSrc
  take   : Word
  digest : Quad
  deriving DecidableEq, Repr

/-- Pair, claim and health state (10). -/
structure PairSt where
  claim      : Word
  usable     : Bool
  partner    : NodeId
  partMode   : BitVec 4
  linkUp     : Bool
  rxUp       : Bool
  partRxUp   : Bool
  seenA      : Bool
  seenB      : Bool
  nowA       : Bool
  nowB       : Bool
  nowEarly   : Bool
  lost       : Bool
  granted    : Bool
  witnessSeen : Bool
  witRounds  : Nat
  sending    : Bool
  paired     : Bool
  refused    : Bool
  demoted    : Bool
  resigned   : Bool
  outWord    : Word
  ownDig     : Option Quad
  partDig    : List PartDigest
  ownDigReg  : Quad
  partDigReg : Quad
  agreeSent  : Bool
  agreeRcvd  : Option (Word × Quad)
  equalRun   : Nat
  diffRun    : Nat
  stDone     : Byte
  stFail     : Byte
  stAges     : List Nat
  bad        : Bool
  badCnt     : BitVec 2
  healthPart : Word
  partReport : Bytes
  partSeen   : Bool
  partBadCnt : BitVec 2
  grant      : BitVec 4
  diffCnt    : Word
  absentCnt  : Word
  withheldCnt : Word
  linkDownCnt : Word
  grantCnt   : Word
  lostCnt    : Word
  wrapCfg    : Word
  wrapWin    : Word
  wrapLane   : BitVec 2
  cycleDone  : Bool
  winOpen    : Bool
  cycleOn    : Bool
  cycleFrom  : Word
  cycleNext  : BitVec 2
  wrapAge    : BitVec 16
  wrapPart   : Nat
  witHolder  : NodeId
  witNode    : NodeId
  witClaim   : Word
  witLast    : Option (BitVec 40)
  equalReq   : Bool
  loaded     : Bool
  startReq   : Bool
  withhold   : Bool
  deriving DecidableEq, Repr

/-- An accepted frame, with the ring that delivered it first (R318), its slot and ROUND, its ring-port stamp (R338), and, of a frame that
acted on the pair state, what that state was before; `gone` says that the slot has been discarded. -/
structure SlotRx where
  ring  : Ring
  slot  : BitVec 12
  round : BitVec 40
  stamp : NetTime
  frame : Frame
  was   : Option PairSt
  gone  : Bool
  deriving DecidableEq, Repr

/-- The fields of an accepted slate that R325 compares, with its sender, claim and flags (R323). -/
structure Slate where
  flags     : Byte
  master    : NodeId
  round     : BitVec 40
  takeNum   : Word
  nCur      : Byte
  nPend     : Byte
  pendRound : BitVec 40
  inTake    : Byte
  claim     : Word
  logDig    : BitVec 64
  deriving DecidableEq, Repr

/-- A tunnel message under reassembly: channel, sender, number, next fragment and the data so far (R652). -/
structure Reasm where
  chan : Byte
  node : NodeId
  msg  : BitVec 16
  next : BitVec 7
  data : Bytes
  deriving DecidableEq, Repr

/-- The network interface (08). -/
structure NetSt where
  node      : NodeId
  sync      : Sync
  starter   : Bool
  master    : Bool
  terminating : Bool
  primary   : NodeId
  watching  : Bool
  slateSrc  : BitVec 2
  slateDiff : Word
  lastSlate : Option Slate
  slateFrom : Ring × BitVec 12
  runSlates : Nat
  missRun   : Nat
  ofs       : BitVec 16
  drift     : BitVec 2
  ofsValid  : Bool
  contended : Byte
  rival     : NodeId
  ringA     : RingSt
  ringB     : RingSt
  ringDiff  : Word
  slateMiss : Word
  silentCnt : Word
  guardBlk  : Word
  guardRun  : Nat
  guard     : List (BitVec 12)
  csSel     : BitVec 12
  guardFrom : Option (BitVec 12)
  slotRx    : List SlotRx
  delivered : List SlotRx
  holderSeen : Bool
  holderSeenPrev : Bool
  handover  : Option (BitVec 40)
  rounds    : Nat
  noFrame   : Nat
  backupDig : BitVec 64
  reasm     : List Reasm
  tunnelIn  : List (Byte × NodeId × Bytes)
  tunnelOut : List (Byte × Bytes)
  tunnelNum : List (Byte × BitVec 16)
  tunnelFrag : Nat
  actRound  : BitVec 40
  shown     : List Word
  deriving DecidableEq, Repr

/-- Module-level session registers (09). -/
structure SesSt where
  sel      : SesId
  disRx    : Word
  staleNow : BitVec 10
  deriving DecidableEq, Repr

/-- The witness function of a module that runs a witness image (R390 to R396). -/
structure WitSt where
  claim   : Word
  holder  : NodeId
  grant   : Bool
  req1    : NodeId
  res1    : Byte
  req2    : NodeId
  res2    : Byte
  reports : List (BitVec 2 × Bytes)
  deriving DecidableEq, Repr

/-- One field pin: filters, fault code, counter and period, readback (11). -/
structure PinSt where
  accX    : Byte
  accY    : Byte
  outX    : Bool
  outY    : Bool
  snapX   : Bool
  snapY   : Bool
  snapFault : BitVec 4
  differ  : Nat
  agree   : Nat
  fault   : BitVec 4
  count   : Word
  preset  : Word
  pend    : Bool
  cntCap  : Word
  lastEdge : Option Nat
  period  : Word
  perCap  : Word
  reading : Reading
  off     : Bool
  deriving DecidableEq, Repr

/-- One field group: supply and sag flag; `held` keeps its channels off until the next take start (R456). -/
structure GroupSt where
  volt : BitVec 16
  curr : BitVec 16
  sag  : Bool
  held : Bool
  snapSag : Bool
  deriving DecidableEq, Repr

/-- The refresh of one lane across the barrier (R457). -/
structure TokenSt where
  count : Option (BitVec 16)
  alive : Bool
  deriving DecidableEq, Repr

/-- The field side and its registers (11). `cmd` is the lane command that each lane gives, as applied at the take start. -/
structure FioSt where
  pins    : List PinSt
  groups  : List GroupSt
  tokens  : Three TokenSt
  silent  : Bool
  resume  : Bool
  snapOk  : Bool
  snapBad : Bool
  cmd     : Three (BitVec 48)
  enable  : Bool
  pinSel  : BitVec 6
  ovf     : Byte
  fsAlive : Bool
  deriving DecidableEq, Repr

/-- A complete 32-byte record of the Reel (R496). -/
structure Record where
  wcnt : Word
  code : Byte
  flags : Byte
  source : BitVec 16
  stamp : BitVec 64
  data : Bytes
  check : Word
  deriving DecidableEq, Repr

/-- The rate limit of one code (R502, R503). -/
structure Bucket where
  code   : Byte
  rate   : Byte
  burst  : Byte
  tokens : Byte
  supp   : BitVec 24
  first  : Word
  last   : Word
  lastAt : NetTime
  deriving DecidableEq, Repr

/-- The accumulators of the Dailies (R508). -/
structure DailySt where
  takes    : Word
  lowest   : BitVec 16
  cuts     : Byte
  restarts : Byte
  secVital : Nat
  secDegr  : Nat
  secComm  : Nat
  secOut   : Three Nat
  steps    : Three (List Nat)
  lengths  : List (Nat × Nat)
  stale    : Word
  ackMiss  : Word
  codeErr  : Word
  written  : Word
  suppressed : Word
  corrBase : Three Word
  since    : BitVec 40
  day      : Word
  deriving DecidableEq, Repr

/-- A clear of the Reel that waits or runs (R507). -/
structure ClearReq where
  readTo : Word
  digest : BitVec 48
  deriving DecidableEq, Repr

/-- The Reel (13). `mram` lists (index, record). -/
structure ReelSt where
  mram    : List (Nat × Record)
  base    : Word
  wpos    : Nat
  buffer  : List RecBody
  full    : Bool
  almost  : Bool
  clearing : Bool
  flushing : Bool
  clearReq : Option ClearReq
  lostFull : Word
  bufLost : Word
  lostNow : Word
  suppr   : Word
  rdIdx   : BitVec 23
  rateSel : Byte
  buckets : List Bucket
  clearOut : BitVec 2
  carried : BitVec 11
  daily   : DailySt
  deriving DecidableEq, Repr

/-- An image: manifest and blocks (R261). -/
structure Image where
  manifest : Bytes
  blocks   : List Bytes
  deriving DecidableEq, Repr

/-- The staging states (R515). -/
inductive StageState where
  | empty | receiving | staged | inUse
  deriving DecidableEq, Repr

/-- What uses a staged image (R515, R516). -/
inductive StageUse where
  | none | activation | splice | copy
  deriving DecidableEq, Repr

/-- The phases of an activation in a unit (R534). -/
inductive ActPhase where
  | none | preparing | ready | commit | aborted | done | rolling
  deriving DecidableEq, Repr

/-- The service load of a STATION_SERVICE activation (R525). -/
inductive ServiceLoad where
  | none | loading | checking | passed | failed
  deriving DecidableEq, Repr

/-- Staging, active area, copy journal and activation (14). -/
structure StgSt where
  state    : StageState
  owner    : Option Source
  manifest : Bytes
  blocks   : List (Nat × Bytes)
  use      : StageUse
  firmware : Option Image
  station  : List Image
  marker   : Option (BitVec 16 × Bytes)
  startMark : Option (BitVec 16 × Bool)
  copyOpen : Bool
  copyStation : Bool
  copyNext : Nat
  copyCnt  : Nat
  copyDig  : Quad
  resumed  : Bool
  phase    : ActPhase
  kind     : BitVec 2
  cause    : Byte
  round    : BitVec 40
  digest   : Quad
  parts    : List NodeId
  readys   : List NodeId
  decided  : Option Bool
  service  : ServiceLoad
  prepared : Bool
  restartDue : Bool
  local_   : Bool
  vitalTakes : Nat
  deriving DecidableEq, Repr

/-- The event controller (R552 to R554). -/
structure EvtSt where
  en     : BitVec 256
  pend   : BitVec 256
  prio   : BitVec 1024
  thresh : BitVec 3
  merged : Word
  deriving DecidableEq, Repr

/-- One broadcast mailbox as the coordinator sees it (R540, R559). -/
structure BcBox where
  words : List Word
  len   : BitVec 5
  wake  : Bool
  mstat : BitVec 4
  deriving DecidableEq, Repr

/-- Mailboxes and coordinator restart (15). -/
structure MbxSt where
  bc       : List BcBox
  disagree : Word
  drops    : Word
  coordRst : Word
  restarting : Bool
  deriving DecidableEq, Repr

/-- One performance counter (R588). -/
structure Counter where
  cfg : Word
  val : BitVec 48
  deriving DecidableEq, Repr

/-- The performance counters (17). -/
structure PmcSt where
  counters : List Counter
  freeze   : Bool
  onCut    : Bool
  onWrap   : Bool
  seqIrq   : Bool
  frozen   : Bool
  stopped  : Bool
  cause    : BitVec 2
  lastWrap : Byte
  frzTime  : BitVec 64
  frzHi    : Word
  sel      : Byte
  valHi    : BitVec 16
  presetHi : BitVec 16
  wraps    : BitVec 256
  base0    : Word
  lim0     : Word
  base1    : Word
  lim1     : Word
  deriving DecidableEq, Repr

/-- Why the module runs a module wrap (R565). -/
inductive WrapWhy where
  | none | lane | standIn | activation | boot
  deriving DecidableEq, Repr

/-- The wrap test (16). -/
structure WrapSt where
  running : Bool
  why     : WrapWhy
  lane    : LaneId
  slice   : Nat
  module  : BitVec 2
  moduleOk : Bool
  nvFail  : Bool
  cycle    : Word
  wrapCycle : Option Word
  cutCycle : Option Word
  data    : BitVec 16
  chk     : BitVec 16
  sel     : BitVec 10
  runs    : List (Nat × SliceRun)
  failing : List Nat
  deriving DecidableEq, Repr

/-- Supply, lines and security (18). -/
structure PwrSt where
  feedA     : Word
  feedB     : Word
  feedAOk   : Bool
  feedBOk   : Bool
  holdupOk  : Bool
  charged   : Bool
  time      : BitVec 12
  vcap      : BitVec 10
  measured  : Bool
  intruded  : Bool
  intruPend : Bool
  enrolOpen : Bool
  temps     : List (BitVec 16 × BitVec 16)
  standinEn : Bool
  tempLogAt : Option NetTime
  sense     : BitVec 4
  cue       : Bool
  cueHeld   : Bool
  dips      : Word
  fails     : Word
  lastFail  : Bool
  devKey    : Bool
  devCert   : Option Cert
  deriving DecidableEq, Repr

/-- A control-port session (R635). -/
structure TlsSession where
  sid    : Nat
  cp2    : Bool
  role   : ClientRole
  digest : BitVec 48
  deriving DecidableEq, Repr

/-- An open proposal (R641). -/
structure Proposal where
  sid    : Option Nat
  client : BitVec 48
  msgId  : Word
  msg    : CtlMsg
  digest : Quad
  deriving DecidableEq, Repr

/-- A route-request or other item accepted for ordering (R644). -/
structure Accepted where
  sid    : Option Nat
  client : BitVec 48
  msgId  : Word
  item   : BitVec 16
  idx    : Nat
  deriving DecidableEq, Repr

/-- An authorised ordered message that is confirmed and waits for an order list (R644). -/
structure AuthMsg where
  msg      : CtlMsg
  proposer : BitVec 48
  confirmer : BitVec 48
  sid      : Option Nat
  msgId    : Word
  deriving DecidableEq, Repr

/-- A local message that waits for a free broadcast mailbox (R639): its words, and the session to answer. -/
structure LocalMsg where
  words : List Word
  sid   : Option Nat
  msgId : Word
  deriving DecidableEq, Repr

/-- IEEE 1588 time (R649, R650). -/
structure PtpSt where
  offset    : Int
  utcOffset : Int
  locked    : Bool
  agree     : Nat
  lastSync  : NetTime
  rankA     : Option Nat
  rankB     : Option Nat
  utc       : Nat
  highUtc   : Nat
  deriving DecidableEq, Repr

/-- Control and service ports (19). -/
structure PortSt where
  sessions  : List TlsSession
  nextSid   : Nat
  proposals : List Proposal
  ordered   : List (BitVec 48 × Word × Word)
  items     : List Accepted
  auths     : List AuthMsg
  locals    : List LocalMsg
  seq       : Word
  listTake  : Option Word
  ptp       : PtpSt
  deriving DecidableEq, Repr

/-- The sticky flag registers (R552), one of each block. -/
structure FlagRegs where
  sys   : Word
  adapt : Word
  lane  : Word
  scrub : Word
  net   : Word
  ses   : Word
  pair  : Word
  fio   : Word
  reel  : Word
  stg   : Word
  sw    : Word
  mbx   : Word
  sem   : Word
  pmc   : Word
  wrap  : Word
  pwr   : Word
  deriving DecidableEq, Repr

/-- Module-level lane and voter registers (05, 02). `slotDig` is the digest agreed for the take of each lane's newest checkpoint (R236). -/
structure VoteSt where
  dbgRefused : Word
  telMis     : Word
  swMis      : Word
  agreed     : Quad
  agreedTake : Word
  ckptSlot   : Bool
  ckptValid  : Bool
  ckptTake   : Word
  slotDig    : Three (Option (Word × Quad))
  logDig     : Bytes
  deriving DecidableEq, Repr

/-- The vital mirrors (R19): register words by address, and the tables behind the selected registers; `meas` holds the non-vital
registers that the boundary work updates (R59, R254). -/
structure MirrorSt where
  regs   : List (Word × Word)
  meas   : List (Word × Word)
  force  : List ForceEntry
  ses    : List SesRec
  vec    : List (Elem × TileVec)
  deriving DecidableEq, Repr

/-- The reply to the last register access. -/
inductive Bus where
  | idle | ok | data (value : Word) | error
  deriving DecidableEq, Repr

/-- What the module puts on a port. -/
inductive Output where
  | frame (ring : Ring) (rev : Bool) (at_ : NetTime) (frame : Frame)
  | forward (ring : Ring) (rev : Bool) (frame : Frame)
  | timing (ring : Ring) (outPort : Bool) (path : BitVec 24) (hold : BitVec 16) (flags : Byte) (crc : Byte)
  | digest (take : Word) (claim : Word) (digest : Quad)
  | agree (take : Word) (digest : Quad)
  | heartbeat (node : NodeId) (mode : BitVec 4) (rxUp : Bool)
  | health (payload : Bytes)
  | tlen (len : BitVec 6)
  | demote (node : NodeId)
  | resign (node : NodeId)
  | equal (vital : Vital) (digest : Quad)
  | ready
  | result (sid : Nat) (msgId : Word) (code : BitVec 4) (take : Word)
  | take (sid : Nat) (num : Word) (mode : Mode) (role : Role) (claim : Word) (outcomes : List CmdOutcome) (changed : List (Elem × TileVec))
  | snapshot (sid : Nat) (vec : List (Elem × TileVec))
  | time (sid : Nat) (offset : Int) (utcOffset : Int) (locked : Bool) (last : NetTime)
  | records (list : List (Nat × Option Record))
  | certRequest
  | closed (sid : Nat)
  deriving DecidableEq, Repr

/-- The module. -/
structure State where
  /-- The commands that wait, first in first out. -/
  pending : List Instr
  /-- Network time of the last command that fixed it (R22). -/
  now     : NetTime
  take    : TakeSt
  sys     : SysSt
  laneA   : Lane
  laneB   : Lane
  laneC   : Lane
  vote    : VoteSt
  net     : NetSt
  ses     : SesSt
  pair    : PairSt
  wit     : WitSt
  fio     : FioSt
  reel    : ReelSt
  stg     : StgSt
  evt     : EvtSt
  mbx     : MbxSt
  /-- The holder of each of the 32 locks (R555). -/
  locks   : List (Option (BitVec 3))
  pmc     : PmcSt
  wrap    : WrapSt
  pwr     : PwrSt
  port    : PortSt
  flags   : FlagRegs
  mirror  : MirrorSt
  bus     : Bus
  out     : List Output
  /-- The model's own counter of free values taken. -/
  free    : Nat
  deriving DecidableEq, Repr

/-! ### Reset

The register reset values are those of the register tables; every other value is named in log 3 (DESIGN CHOICE: zero or
empty), except where a rule gives one. -/

/-- Network time 0. -/
def NetTime.zero : NetTime := { round := 0, slot := 0, tick := 0 }

/-- The four ports all with one value. -/
def Four.rep {α : Type} (x : α) : Four α := { a := x, b := x, c := x, d := x }

/-- The three lanes all with one value. -/
def Three.rep {α : Type} (x : α) : Three α := { a := x, b := x, c := x }

/-- A cleared wave register (R185). -/
def WaveReg.clear : WaveReg where
  ps := Four.rep none
  isNew := false
  passed := false
  inPort := none
  rport := none
  wait := Four.rep false
  best := none
  ok := false
  go := false
  flank := false
  atEnd := false
  ovlEnd := false
  take := Four.rep false
  mode := .new
  conf := Four.rep false
  rej := Four.rep false
  barIn := Four.rep false
  bar1 := Four.rep false
  flankWait := false
  sideFrom := none
  ovlFor := none
  xRoute := none
  xWait := false
  xOvl := false
  couple := none
  chkPort := none
  chkMode := 0
  chkFlank := false
  chkSide := none
  sideOk := false
  sentArg := none
  timed := false
  aspect := false
  aspStart := 0

/-- The fabric before the first take. -/
def Fabric.reset : Fabric where
  tiles := []
  phase := .p6
  step := 0
  running := false
  quiet := true
  stuck := false
  phaseNs := 0
  settleNs := 0
  durs := []
  regionNs := []
  latches := []
  exits := []
  vias := []
  calls := []
  admitted := []
  cancels := []
  taken := 0

/-- The vital state before any restart. -/
def Vital.reset : Vital where
  hdr := { takeNum := 0, nCur := 0, nPend := 0, pendRound := 0, start := NetTime.zero, role := .none, claim := 0 }
  inputs := { inX := 0, rmask := 0, sesIn := [], release := [], close := [], reset := [] }
  vec := []
  reg := { regEn := 0, regRestrict := 0, active := 0, rtActive := false, rtShadow := false, stage := .none,
           spliceSet := 0, commitTake := 0, sched := false, rstDis := 0, shadow := 0, grpEn := 0, settle := [] }
  ses := []
  erl := []
  pending := []
  outcomes := []
  force := []
  latch := { payloads := [], pins := 0 }

/-- The tables of a lane that has loaded no image. -/
def StationData.reset : StationData where
  nCfg := 0
  nMax := 0
  sImg := 0
  warmAge := 0
  routeCount := 0
  sesCount := 0
  logDigest := []
  place := Three.rep []
  station := 0
  timers := []
  callSheet := []
  sessions := []
  pins := []
  groups := []
  relocs := []
  witness := []

/-- A restart store that has never been written (R480: MODE_SEL = COMMISSIONING). -/
def RestartStore.reset : RestartStore where
  commissioning := true
  blocks := []
  disabled := 0
  cuts := []
  unusable := 0
  passes := 0

/-- A lane after reset: LANE_STATE resets to ACTIVE (R255), EXCL to cause NONE (R256), FAIL to FIRST = 0xFF (R583). -/
def Lane.reset : Lane where
  stat := { state := .active, held := false, cause := 0, causeTake := 0, exclCnt := 0, exclTakes := [], matchCnt := 0,
            failCnt := 0, dbg := false, domainOn := true, wokenAt := none, ready := false, running := false,
            waiting := false, steps := [], joins := false, resetReq := false, wrapReq := false, reload := false }
  fab := Fabric.reset
  mem := { cells := [], scrubReg := 0, scrubCw := 0, scrubTake := none, scrubAll := false, rdig := [], rdigTake := none, corr := 0, chkRep := 0, uncorr := 0, latchRep := 0,
           loaded := 0, loadTake := none }
  adp := { margin := 0, region := 0, phase := 0, step := 0, sinceUp := 8, relax := 0, valid := false }
  vit := Vital.reset
  check := none
  ckptA := none
  ckptB := none
  ckptLast := false
  store := RestartStore.reset
  disabled := 0
  data := StationData.reset
  rx := []
  mbx := List.replicate 4 { words := [], len := 0, full := false, cmp := none }
  boxes := List.replicate 4 { words := [], len := 0, full := false }
  unsent := []
  accTx := 0
  accRx := 0
  txBuf := []
  eff := { payloads := [], pins := 0 }
  verify := 0
  verifyOk := false
  wrap := { verdict := 0, failing := [], failed := 0xFF, failCnt := 0, runs := [] }
  rails := 0
  thermal := false
  railCnt := 0
  snap := false
  digest := 0
  pairDig := none
  keys := List.replicate 4 none
  witStore := none
  report := []
  noticed := false
  sample := 0

/-- TAKE after reset: every register 0 but MARGIN_LOW = 1000 (R58). -/
def TakeSt.reset : TakeSt where
  nCur := 0
  nPend := 0
  pendRound := 0
  num := 0
  start := NetTime.zero
  point := .idle
  ran := false
  first := false
  follows := false
  held := []
  boundDue := false
  indOld := none
  margin := 0
  mCfg := 0
  laneMin := 0
  marginLow := 1000
  good := 0
  low := 0
  atMax := false
  lenCnt := 0
  ovrCnt := 0
  ovrLast := 0
  ownReq := 0
  partReq := none
  partNew := false
  startHi := 0

/-- SYS after reset: MODE reads BOOT (R491). -/
def SysSt.reset : SysSt where
  mode := .boot
  role := .none
  commissioning := false
  vitalEn := false
  reason := 0
  reasonTake := 0
  restart := 0
  cold := 0
  warm := 0
  autoBlocked := false
  autoStart := false
  cutAt := NetTime.zero
  modePend := none
  settling := false
  settleLeft := 0
  forceSel := 0
  fwVersion := 0
  imgId := 0
  imgVersion := 0

/-- A stream after reset: not received, and without grid. -/
def StreamSt.reset : StreamSt where
  use := false
  slates := 0
  last := 0
  path := 0
  grid := false
  phase := 0
  rate := 0

/-- A ring with no signal (R345). -/
def RingSt.reset : RingSt where
  inSignal := false
  outSignal := false
  fwd := StreamSt.reset
  rev := StreamSt.reset
  hopIn := 0
  hopOut := 0
  rxOk := 0
  crcErr := 0
  winRej := 0

/-- NET after reset (R342, R344). -/
def NetSt.reset : NetSt where
  node := 0
  sync := .notStarted
  starter := false
  master := false
  terminating := false
  primary := 0
  watching := false
  slateSrc := 0
  slateDiff := 0
  lastSlate := none
  slateFrom := (.a, 0)
  runSlates := 0
  missRun := 0
  ofs := 0
  drift := 0
  ofsValid := false
  contended := 0
  rival := 0
  ringA := RingSt.reset
  ringB := RingSt.reset
  ringDiff := 0
  slateMiss := 0
  silentCnt := 0
  guardBlk := 0
  guardRun := 0
  guard := []
  csSel := 0
  guardFrom := none
  slotRx := []
  delivered := []
  holderSeen := false
  holderSeenPrev := false
  handover := none
  rounds := 0
  noFrame := 0
  backupDig := 0
  reasm := []
  tunnelIn := []
  tunnelOut := []
  tunnelNum := []
  tunnelFrag := 0
  actRound := 0
  shown := List.replicate 10 0

/-- PAIR after reset: GRANT = 0xF, WRAP_CFG = 168 h, WRAP_WIN = 0x00F0_003C (R419). -/
def PairSt.reset : PairSt where
  claim := 0
  usable := false
  partner := 0
  partMode := 0
  linkUp := false
  rxUp := false
  partRxUp := false
  seenA := false
  seenB := false
  nowA := false
  nowB := false
  nowEarly := false
  lost := false
  granted := false
  witnessSeen := false
  witRounds := 0
  sending := false
  paired := false
  refused := false
  demoted := false
  resigned := false
  outWord := 0
  ownDig := none
  partDig := []
  ownDigReg := 0
  partDigReg := 0
  agreeSent := false
  agreeRcvd := none
  equalRun := 0
  diffRun := 0
  stDone := 0
  stFail := 0
  stAges := List.replicate 8 9
  bad := false
  badCnt := 0
  healthPart := 0
  partReport := []
  partSeen := false
  partBadCnt := 0
  grant := 0xF
  diffCnt := 0
  absentCnt := 0
  withheldCnt := 0
  linkDownCnt := 0
  grantCnt := 0
  lostCnt := 0
  wrapCfg := 0xA8
  wrapWin := 0x00F0003C
  wrapLane := 0
  cycleDone := false
  winOpen := false
  cycleOn := false
  cycleFrom := 0
  cycleNext := 0
  wrapAge := 0
  wrapPart := 0
  witHolder := 0
  witNode := 0
  witClaim := 0
  witLast := none
  equalReq := false
  loaded := false
  startReq := false
  withhold := false

/-- A pin after reset: accumulators and filter outputs 0 (R432), fault code NONE. -/
def PinSt.reset : PinSt where
  accX := 0
  accY := 0
  outX := false
  outY := false
  snapX := false
  snapY := false
  snapFault := 0
  differ := 0
  agree := 0
  fault := 0
  count := 0
  preset := 0
  pend := false
  cntCap := 0
  lastEdge := none
  period := 0
  perCap := 0
  reading := { pin := 0, elems := 0, vOdd := 0, vEven := 0, iHigh := 0, iRet := 0 }
  off := false

/-- FIO after reset (R461). -/
def FioSt.reset : FioSt where
  pins := List.replicate 48 PinSt.reset
  groups := List.replicate 6 { volt := 0, curr := 0, sag := false, held := false, snapSag := false }
  tokens := Three.rep { count := none, alive := false }
  silent := false
  resume := false
  snapOk := false
  snapBad := false
  cmd := Three.rep 0
  enable := false
  pinSel := 0
  ovf := 0
  fsAlive := false

/-- The limited record codes of R498. -/
def limitedCodes : List Byte := [0x29, 0x30, 0x34, 0x40, 0x41, 0x50, 0x52, 0x53, 0x60, 0x61]

/-- The accumulators of the Dailies at their start. -/
def DailySt.reset : DailySt where
  takes := 0
  lowest := 1000
  cuts := 0
  restarts := 0
  secVital := 0
  secDegr := 0
  secComm := 0
  secOut := Three.rep 0
  steps := Three.rep (List.replicate 6 0)
  lengths := []
  stale := 0
  ackMiss := 0
  codeErr := 0
  written := 0
  suppressed := 0
  corrBase := Three.rep 0
  since := 0
  day := 0

/-- REEL after reset: recording, buckets full at rate 8 and burst 32 (R502, R509). -/
def ReelSt.reset : ReelSt where
  mram := []
  base := 0
  wpos := 0
  buffer := []
  full := false
  almost := false
  clearing := false
  flushing := false
  clearReq := none
  lostFull := 0
  bufLost := 0
  lostNow := 0
  suppr := 0
  rdIdx := 0
  rateSel := 0
  buckets := limitedCodes.map fun c =>
    { code := c, rate := 8, burst := 32, tokens := 32, supp := 0, first := 0, last := 0, lastAt := NetTime.zero }
  clearOut := 0
  carried := 0
  daily := DailySt.reset

/-- STG after reset: staging of a new module is EMPTY (R515). -/
def StgSt.reset : StgSt where
  state := .empty
  owner := none
  manifest := []
  blocks := []
  use := .none
  firmware := none
  station := []
  marker := none
  startMark := none
  copyOpen := false
  copyStation := false
  copyNext := 0
  copyCnt := 0
  copyDig := 0
  resumed := false
  phase := .none
  kind := 0
  cause := 0
  round := 0
  digest := 0
  parts := []
  readys := []
  decided := none
  service := .none
  prepared := false
  restartDue := false
  local_ := false
  vitalTakes := 0

/-- MBX after reset: BCk_CTL reads LEN = 8 (R558). -/
def MbxSt.reset : MbxSt where
  bc := List.replicate 4 { words := List.replicate 16 0, len := 8, wake := false, mstat := 0 }
  disagree := 0
  drops := 0
  coordRst := 0
  restarting := false

/-- PMC after reset (R602): every counter 0 and not enabled. -/
def PmcSt.reset : PmcSt where
  counters := List.replicate 248 { cfg := 0, val := 0 }
  freeze := false
  onCut := false
  onWrap := false
  seqIrq := false
  frozen := false
  stopped := false
  cause := 0
  lastWrap := 0
  frzTime := 0
  frzHi := 0
  sel := 0
  valHi := 0
  presetHi := 0
  wraps := 0
  base0 := 0
  lim0 := 0
  base1 := 0
  lim1 := 0

/-- WRAP after reset (R580). -/
def WrapSt.reset : WrapSt where
  running := false
  why := .none
  lane := .a
  slice := 0
  module := 0
  moduleOk := false
  nvFail := false
  cycle := 0
  wrapCycle := none
  cutCycle := none
  data := 0
  chk := 0
  sel := 0
  runs := []
  failing := []

/-- PWR after reset (R629). -/
def PwrSt.reset : PwrSt where
  feedA := 0
  feedB := 0
  feedAOk := false
  feedBOk := false
  holdupOk := false
  charged := false
  time := 0
  vcap := 0
  measured := false
  intruded := false
  intruPend := false
  enrolOpen := false
  temps := List.replicate 6 (0, 0)
  standinEn := false
  tempLogAt := none
  sense := 0
  cue := false
  cueHeld := false
  dips := 0
  fails := 0
  lastFail := false
  devKey := false
  devCert := none

/-- Ports after reset: no session, UTC not locked. -/
def PortSt.reset : PortSt where
  sessions := []
  nextSid := 1
  proposals := []
  ordered := []
  items := []
  auths := []
  locals := []
  seq := 0
  listTake := none
  ptp := { offset := 0, utcOffset := 0, locked := false, agree := 0, lastSync := NetTime.zero, rankA := none,
           rankB := none, utc := 0, highUtc := 0 }

/-- The module right after reset: in BOOT (R491), every register at its reset value, nothing loaded, no command waiting. -/
def State.reset : State where
  pending := []
  now := NetTime.zero
  take := TakeSt.reset
  sys := SysSt.reset
  laneA := Lane.reset
  laneB := Lane.reset
  laneC := Lane.reset
  vote := { dbgRefused := 0, telMis := 0, swMis := 0, agreed := 0, agreedTake := 0, ckptSlot := false,
            ckptValid := false, ckptTake := 0, slotDig := Three.rep none, logDig := [] }
  net := NetSt.reset
  ses := { sel := 0, disRx := 0, staleNow := 0 }
  pair := PairSt.reset
  wit := { claim := 0, holder := 0, grant := false, req1 := 0, res1 := 0, req2 := 0, res2 := 0, reports := [] }
  fio := FioSt.reset
  reel := ReelSt.reset
  stg := StgSt.reset
  evt := { en := 0, pend := 0, prio := 0, thresh := 0, merged := 0 }
  mbx := MbxSt.reset
  locks := List.replicate 32 none
  pmc := PmcSt.reset
  wrap := WrapSt.reset
  pwr := PwrSt.reset
  port := PortSt.reset
  flags := { sys := 0, adapt := 0, lane := 0, scrub := 0, net := 0, ses := 0, pair := 0, fio := 0, reel := 0, stg := 0,
             sw := 0, mbx := 0, sem := 0, pmc := 0, wrap := 0, pwr := 0 }
  mirror := { regs := [(0x40000020, 2)], meas := [], force := [], ses := [], vec := [] }
  bus := .idle
  out := []
  free := 0

end Sys2Proof.Machine
end

