-- ==== Sys2Proof/Machine/Bits.lean ====
section
/-! DEFINITION. Bit-field and byte-order helpers (R12, R13), the check values of R263, R311 and R354, network-time arithmetic
(R22) and the comparison of counts modulo 2^32 (R24). -/

namespace Sys2Proof.Machine

open Sys2Proof

/-- Bits `lo + n - 1 : lo` of `x`. -/
def field {w : Nat} (x : BitVec w) (lo n : Nat) : BitVec n := x.extractLsb' lo n

/-- Bit `i` of `x`. -/
def bit {w : Nat} (x : BitVec w) (i : Nat) : Bool := x.getLsbD i

/-- `x` with bit `i` set to `b`. -/
def setBit {w : Nat} (x : BitVec w) (i : Nat) (b : Bool) : BitVec w :=
  if b then x ||| (1#w <<< i) else x &&& ~~~(1#w <<< i)

/-- `x` with bits `lo + n - 1 : lo` replaced by `v`. -/
def setField {w n : Nat} (x : BitVec w) (lo : Nat) (v : BitVec n) : BitVec w :=
  (x &&& ~~~(((BitVec.allOnes n).zeroExtend w) <<< lo)) ||| ((v.zeroExtend w) <<< lo)

/-- The word with `b` in bit `i`, 0 elsewhere. -/
def ofBit {w : Nat} (i : Nat) (b : Bool) : BitVec w := setBit 0 i b

/-- A field value placed at bit `lo` of a wider word. -/
def place {n : Nat} (w lo : Nat) (v : BitVec n) : BitVec w := (v.zeroExtend w) <<< lo

/-- The `n` bytes of `x`, most significant byte first (R13). -/
def toBytes (n : Nat) {w : Nat} (x : BitVec w) : Bytes :=
  (List.range n).map fun i => field x (8 * (n - 1 - i)) 8

/-- The number that bytes spell, most significant byte first (R13). -/
def natOfBytes (l : Bytes) : Nat := l.foldl (fun a b => a * 256 + b.toNat) 0

/-- As `natOfBytes`, in `w` bits. -/
def ofBytes (w : Nat) (l : Bytes) : BitVec w := BitVec.ofNat w (natOfBytes l)

/-- Bytes `i` to `i + n - 1` of `l`; bytes beyond its end read 0. -/
def slice (l : Bytes) (i n : Nat) : Bytes :=
  let s := (l.drop i).take n
  s ++ List.replicate (n - s.length) 0

/-- The field of `n` bytes at offset `i`, in `w` bits. -/
def getBE (w : Nat) (l : Bytes) (i n : Nat) : BitVec w := ofBytes w (slice l i n)

/-- `l` cut or filled with 0 to `n` bytes. -/
def pad (n : Nat) (l : Bytes) : Bytes := slice l 0 n

/-- Number of one bits among the lowest `n` bits. -/
def popCount {w : Nat} (x : BitVec w) (n : Nat) : Nat := (List.range n).countP fun i => x.getLsbD i

/-- `x + 1`, saturating at all ones (counters "saturate"). -/
def satInc {w : Nat} (x : BitVec w) : BitVec w := if x = BitVec.allOnes w then x else x + 1

/-- `x + n`, saturating at all ones. -/
def satAdd {w : Nat} (x : BitVec w) (n : Nat) : BitVec w :=
  if x.toNat + n < 2 ^ w then BitVec.ofNat w (x.toNat + n) else BitVec.allOnes w

/-- A number in `w` bits, saturating at all ones. -/
def satNat (w n : Nat) : BitVec w := if n < 2 ^ w then BitVec.ofNat w n else BitVec.allOnes w

/-- Take, claim or SEQ `a` is later than `b` (R24). -/
def later (a b : Word) : Bool := let d := (a - b).toNat; decide (1 ≤ d ∧ d ≤ 2 ^ 31 - 1)

end Sys2Proof.Machine

namespace Sys2Proof

open Sys2Proof.Machine

/-! ### Network time -/

/-- Network time in 10 ns ticks since round 0: 4,096 slots of 250 ticks a round (R22, R311). -/
def NetTime.ticks (t : NetTime) : Nat := (t.round.toNat * 4096 + t.slot.toNat) * 250 + t.tick.toNat

/-- The network time that lies `n` ticks after round 0. -/
def NetTime.ofTicks (n : Nat) : NetTime where
  round := BitVec.ofNat 40 (n / 1024000)
  slot := BitVec.ofNat 12 (n / 250 % 4096)
  tick := BitVec.ofNat 8 (n % 250)

/-- The 64-bit word of a network time (R22). -/
def NetTime.word (t : NetTime) : BitVec 64 := place 64 20 t.round ||| place 64 8 t.slot ||| place 64 0 t.tick

/-- `n` ticks later. -/
def NetTime.plus (t : NetTime) (n : Nat) : NetTime := NetTime.ofTicks (t.ticks + n)

/-- Ticks of one round: 10.24 ms. -/
def roundTicks : Nat := 1024000

/-- Ticks of one second. -/
def secondTicks : Nat := 100000000

/-- Slot 0 of a round. -/
def NetTime.atRound (r : BitVec 40) : NetTime := { round := r, slot := 0, tick := 0 }

end Sys2Proof

namespace Sys2Proof.Machine

open Sys2Proof

/-! ### Check values -/

/-- One bit of a reflected CRC with the reflected polynomial `p`. -/
def crcBit (p c : Word) : Word := if c.getLsbD 0 then (c >>> 1) ^^^ p else c >>> 1

/-- One byte of a reflected CRC: eight bits, least significant first. -/
def crcByte (p c : Word) (b : Byte) : Word :=
  let c := c ^^^ b.zeroExtend 32
  crcBit p (crcBit p (crcBit p (crcBit p (crcBit p (crcBit p (crcBit p (crcBit p c)))))))

/-- The reflected Castagnoli polynomial 0x1EDC_6F41 (R354). -/
def castagnoli : Word := 0x82F63B78

/-- The reflected polynomial of the IEEE CRC-32 (R262, R311). -/
def ieeePoly : Word := 0xEDB88320

/-- The initial value of an accumulator (R354, R355). -/
def crcInit : Word := 0xFFFFFFFF

/-- CRC-32C (R354). -/
def crc32c (l : Bytes) : Word := l.foldl (crcByte castagnoli) crcInit ^^^ 0xFFFFFFFF

/-- IEEE CRC-32 (R262, R311). PRESUMED parameters of the named standard: reflected, initial value and final XOR all ones (log 7). -/
def crc32 (l : Bytes) : Word := l.foldl (crcByte ieeePoly) crcInit ^^^ 0xFFFFFFFF

/-- A 48-byte payload whose bytes 44 to 47 hold CRC-32C over bytes 0 to 43 (R323, R351, R384, R390, R405, R652). -/
def checkedPayload (l : Bytes) : Bool := decide (l.length = 48) && decide (getBE 32 l 44 4 = crc32c (l.take 44))

/-- 44 bytes with their CRC-32C appended. -/
def sealPayload (l : Bytes) : Bytes := let p := pad 44 l; p ++ toBytes 4 (crc32c p)

end Sys2Proof.Machine
end

