-- ==== Sys2Proof/Machine/Code.lean ====
section
/-! DEFINITION. The memory code RS(36,32) of R95 and R96: field GF(2^8) with x^8 + x^4 + x^3 + x^2 + 1, generator roots
alpha^0 to alpha^3, 32 data bytes then 4 check bytes, the first byte the coefficient of x^35 (DEDUCED, log 9). -/

namespace Sys2Proof.Machine

open Sys2Proof

/-- Multiplication by alpha in GF(2^8). -/
def gfX (a : Byte) : Byte := if a.getLsbD 7 then (a <<< 1) ^^^ 0x1D else a <<< 1

/-- Multiplication in GF(2^8). -/
def gfMul (a b : Byte) : Byte :=
  ((List.range 8).foldl (fun (acc : Byte × Byte) i =>
    (if b.getLsbD i then acc.1 ^^^ acc.2 else acc.1, gfX acc.2)) (0, a)).1

/-- One byte into the CRC-8 of a timing set (R308): polynomial x^8 + x^2 + x + 1, most significant bit first. -/
def crc8Byte (c b : Byte) : Byte :=
  (List.range 8).foldl (fun (c : Byte) _ => if c.msb then (c <<< 1) ^^^ 0x07 else c <<< 1) (c ^^^ b)

/-- The CRC-8 of a timing set. R308 gives the polynomial; that the register starts at 0 and is not complemented is a DESIGN CHOICE
(log 111). -/
def crc8 (l : Bytes) : Byte := l.foldl crc8Byte 0

/-- alpha^n. -/
def gfExp : Nat → Byte
  | 0 => 1
  | n + 1 => gfX (gfExp n)

/-- The inverse a^254 (0 for 0). -/
def gfInv (a : Byte) : Byte :=
  let a2 := gfMul a a
  let a4 := gfMul a2 a2
  let a8 := gfMul a4 a4
  let a16 := gfMul a8 a8
  let a32 := gfMul a16 a16
  let a64 := gfMul a32 a32
  let a128 := gfMul a64 a64
  gfMul a2 (gfMul a4 (gfMul a8 (gfMul a16 (gfMul a32 (gfMul a64 a128)))))

/-- The value at `x` of the polynomial whose coefficients `l` lists, highest first. -/
def gfEval (x : Byte) (l : Bytes) : Byte := l.foldl (fun a c => gfMul a x ^^^ c) 0

/-- The coefficients 3 to 0 of the generator (x - 1)(x - alpha)(x - alpha^2)(x - alpha^3), below its leading 1. -/
def rsGen : Bytes :=
  let mul := fun (g : Bytes) (r : Byte) => (g ++ [0]).zipWith (fun a b => a ^^^ gfMul b r) (0 :: g)
  ((mul (mul (mul (mul [1] 1) (gfExp 1)) (gfExp 2)) (gfExp 3)).drop 1)

/-- The four check bytes of 32 data bytes: the remainder of data * x^4 by the generator. -/
def rsCheck (data : Bytes) : Bytes :=
  data.foldl (fun r d =>
    let q := d ^^^ r.headD 0
    ((r.drop 1) ++ [0]).zipWith (fun a g => a ^^^ gfMul q g) rsGen) [0, 0, 0, 0]

/-- A codeword: 32 data bytes and their check bytes. -/
def rsEncode (data : Bytes) : Bytes := pad 32 data ++ rsCheck (pad 32 data)

/-- What the decoder finds (R96). -/
inductive Decoded where
  /-- The corrected codeword, the data corrections and the check-symbol repairs made. -/
  | ok (word : Bytes) (data chk : Nat)
  | uncorrectable
  deriving DecidableEq, Repr

/-- `l` with symbol `i` changed by `e`. -/
def rsFix (l : Bytes) (i : Nat) (e : Byte) : Bytes := l.set i (l.getD i 0 ^^^ e)

/-- The decoder of R96: it corrects at most two symbol errors. -/
def rsDecode (w : Bytes) : Decoded :=
  let s0 := gfEval 1 w
  let s1 := gfEval (gfExp 1) w
  let s2 := gfEval (gfExp 2) w
  let s3 := gfEval (gfExp 3) w
  let count := fun (i : Nat) => if i < 32 then (1, 0) else ((0, 1) : Nat × Nat)
  if s0 = 0 ∧ s1 = 0 ∧ s2 = 0 ∧ s3 = 0 then .ok w 0 0
  else
    let det := gfMul s1 s1 ^^^ gfMul s0 s2
    if det = 0 then
      -- one error: the locator is s1 / s0
      let x := gfMul s1 (gfInv s0)
      match (List.range 36).find? fun i => decide (gfExp (35 - i) = x) with
      | some i =>
        if s0 ≠ 0 ∧ gfMul s1 x = s2 ∧ gfMul s2 x = s3 then .ok (rsFix w i s0) (count i).1 (count i).2
        else .uncorrectable
      | none => .uncorrectable
    else
      let g1 := gfMul (gfMul s0 s3 ^^^ gfMul s1 s2) (gfInv det)
      let g0 := gfMul (gfMul s1 s3 ^^^ gfMul s2 s2) (gfInv det)
      match (List.range 36).filter fun i =>
          let x := gfExp (35 - i)
          decide (gfMul x x ^^^ gfMul g1 x ^^^ g0 = 0) with
      | [i, j] =>
        let x := gfExp (35 - i)
        let y := gfExp (35 - j)
        let e := gfMul (gfMul s0 y ^^^ s1) (gfInv (x ^^^ y))
        let f := s0 ^^^ e
        .ok (rsFix (rsFix w i e) j f) ((count i).1 + (count j).1) ((count i).2 + (count j).2)
      | _ => .uncorrectable

end Sys2Proof.Machine
end

