-- ==== Sys2Proof/Machine/Crypto.lean ====
section
/-! DEFINITION. The digest and the signature of the manual: SHA-512 (R104, R223, R263) and Ed25519 under RFC 8032 (R263).
The manual names these standards and does not repeat them: PRESUMED from the standards (log 7). -/

namespace Sys2Proof.Machine

open Sys2Proof

/-! ### SHA-512 -/

/-- The `k`-th root of `n`, settled bit by bit from bit `i - 1` down over the bits `r` already settled. -/
def rootFrom (k n : Nat) : Nat → Nat → Nat
  | 0, r => r
  | i + 1, r => rootFrom k n i (if (r + 2 ^ i) ^ k ≤ n then r + 2 ^ i else r)

/-- The first 64 bits of the fraction of the `k`-th root of `p`. -/
def rootFraction (k p : Nat) : BitVec 64 := BitVec.ofNat 64 (rootFrom k (p * 2 ^ (64 * k)) 68 0)

/-- The first 80 primes. -/
def shaPrimes : List Nat :=
  (List.range 410).filter fun n => decide (2 ≤ n) && (List.range 21).all fun d => decide (d < 2 ∨ n ≤ d ∨ n % d ≠ 0)

/-- The round constants: one prime each, cube root. -/
def shaK : List (BitVec 64) := shaPrimes.map (rootFraction 3)

/-- The working words as the two sequences the rounds lengthen, each with its newest four values, newest first. -/
structure ShaChain where
  left : List (BitVec 64)
  right : List (BitVec 64)
  deriving DecidableEq, Repr

/-- The initial value: the first eight primes, square root. -/
def shaInit : ShaChain :=
  let h := (shaPrimes.take 8).map (rootFraction 2)
  { left := h.take 4, right := h.drop 4 }

/-- The exclusive or of three rotations. -/
def rotate3 (x : BitVec 64) (i j k : Nat) : BitVec 64 := x.rotateRight i ^^^ x.rotateRight j ^^^ x.rotateRight k

/-- A schedule of 16 words and `n` more, newest first: each from those 2, 7, 15 and 16 places back. -/
def shaSchedule (w : List (BitVec 64)) (n : Nat) : List (BitVec 64) :=
  (List.range n).foldl (fun w _ =>
    let back := fun i => w.getD (i - 1) 0
    let far := back 15
    let near := back 2
    (back 16 + ((far.rotateRight 1 ^^^ far.rotateRight 8) ^^^ far >>> 7) + back 7 +
      ((near.rotateRight 19 ^^^ near.rotateRight 61) ^^^ near >>> 6)) :: w) w

/-- One round with the sum `kw` of its constant and its schedule word: the right sequence's newest word chooses between the
two before it, the left's three newest vote. -/
def shaRound (s : ShaChain) (kw : BitVec 64) : ShaChain :=
  let l := fun i => s.left.getD i 0
  let r := fun i => s.right.getD i 0
  let mixed := kw + r 3 + rotate3 (r 0) 14 18 41 + (r 2 ^^^ (r 0 &&& (r 1 ^^^ r 2)))
  let vote := (l 0 &&& (l 1 ||| l 2)) ||| (l 1 &&& l 2)
  { left := (mixed + rotate3 (l 0) 28 34 39 + vote) :: s.left.take 3, right := (l 3 + mixed) :: s.right.take 3 }

/-- One block of 128 bytes. -/
def shaBlock (s : ShaChain) (blk : Bytes) : ShaChain :=
  let w := (shaSchedule ((List.range 16).reverse.map fun i => getBE 64 blk (8 * i) 8) 64).reverse
  let t := (List.zipWith (· + ·) shaK w).foldl shaRound s
  { left := List.zipWith (· + ·) s.left t.left, right := List.zipWith (· + ·) s.right t.right }

/-- `n` blocks of the padded message. -/
def shaBlocks : Nat → ShaChain → Bytes → ShaChain
  | 0, s, _ => s
  | n + 1, s, m => shaBlocks n (shaBlock s (m.take 128)) (m.drop 128)

/-- SHA-512: 64 bytes. The padding is a one bit, zeros, and the length in bits over 16 bytes. -/
def sha512 (m : Bytes) : Bytes :=
  let zeros := (239 - m.length % 128) % 128
  let p := m ++ 0x80 :: (List.replicate zeros 0 ++ toBytes 16 (BitVec.ofNat 128 (8 * m.length)))
  let s := shaBlocks (p.length / 128) shaInit p
  (s.left ++ s.right).flatMap (toBytes 8)

/-- The first 16 bytes of SHA-512, as the digests of R223, R385, R521, R523 and R641 take them. -/
def digest16 (m : Bytes) : Quad := ofBytes 128 ((sha512 m).take 16)

/-- The first 8 bytes of SHA-512 (R100, R475). -/
def digest8 (m : Bytes) : BitVec 64 := ofBytes 64 ((sha512 m).take 8)

/-! ### Ed25519 -/

/-- The field prime 2^255 - 19. -/
def edP : Nat := 2 ^ 255 - 19

/-- The order of the base point. -/
def edL : Nat := 2 ^ 252 + 27742317777372353535851937790883648493

/-- `b ^ e mod m` over the lowest `n` bits of `e`. -/
def powMod (m : Nat) : Nat → Nat → Nat → Nat
  | 0, _, _ => 1
  | n + 1, b, e =>
    let r := powMod m n (b * b % m) (e / 2)
    if e % 2 = 1 then r * b % m else r

/-- The inverse in the field. -/
def edInv (x : Nat) : Nat := powMod edP 256 x (edP - 2)

/-- The curve constant -121665/121666. -/
def edD : Nat := (edP - 121665) * edInv 121666 % edP

/-- A point in extended coordinates. -/
structure EdPoint where
  x : Nat
  y : Nat
  z : Nat
  t : Nat
  deriving DecidableEq, Repr

/-- The neutral point. -/
def edZero : EdPoint := { x := 0, y := 1, z := 1, t := 0 }

/-- Point addition. -/
def edAdd (p q : EdPoint) : EdPoint :=
  let a := (p.y + edP - p.x) * (q.y + edP - q.x) % edP
  let b := (p.y + p.x) * (q.y + q.x) % edP
  let c := 2 * p.t * q.t * edD % edP
  let d := 2 * p.z * q.z % edP
  let e := b + edP - a
  let f := d + edP - c
  let g := d + c
  let h := b + a
  { x := e * f % edP, y := g * h % edP, z := f * g % edP, t := e * h % edP }

/-- `k` times `p` over the lowest `n` bits of `k`. -/
def edMul : Nat → Nat → EdPoint → EdPoint
  | 0, _, _ => edZero
  | n + 1, k, p =>
    let r := edMul n (k / 2) (edAdd p p)
    if k % 2 = 1 then edAdd p r else r

/-- Equality of points. -/
def edEq (p q : EdPoint) : Bool :=
  decide (p.x * q.z % edP = q.x * p.z % edP) && decide (p.y * q.z % edP = q.y * p.z % edP)

/-- The point with this y coordinate and sign of x; none where the curve has none. -/
def edRecover (y : Nat) (sign : Nat) : Option EdPoint :=
  if edP ≤ y then none
  else
    let x2 := (y * y + edP - 1) * edInv (edD * y * y + 1) % edP
    let x0 := powMod edP 256 x2 ((edP + 3) / 8)
    let x1 := if x0 * x0 % edP = x2 then x0 else x0 * powMod edP 256 2 ((edP - 1) / 4) % edP
    if x1 * x1 % edP ≠ x2 then none
    else if x1 = 0 ∧ sign = 1 then none
    else
      let x := if x1 % 2 = sign then x1 else edP - x1
      some { x := x, y := y, z := 1, t := x * y % edP }

/-- Little-endian number of a byte string (RFC 8032). -/
def natOfLE (l : Bytes) : Nat := l.foldr (fun b a => a * 256 + b.toNat) 0

/-- A point from its 32 bytes. -/
def edDecode (l : Bytes) : Option EdPoint :=
  let n := natOfLE l
  edRecover (n % 2 ^ 255) (n / 2 ^ 255)

/-- The base point: y = 4/5, x even. -/
def edBase : Option EdPoint := edRecover (4 * edInv 5 % edP) 0

/-- Ed25519 verification (RFC 8032) of the 64-byte signature `sig` over `msg` under the 32-byte key `key`. -/
def ed25519Verify (key msg sig : Bytes) : Bool :=
  let s := natOfLE ((sig.drop 32).take 32)
  match edBase, edDecode key, edDecode (sig.take 32) with
  | some b, some a, some r =>
    let k := natOfLE (sha512 (sig.take 32 ++ key ++ msg)) % edL
    decide (s < edL) && edEq (edMul 256 s b) (edAdd r (edMul 256 k a))
  | _, _, _ => false

end Sys2Proof.Machine
end

