-- ==== Sys2Proof/Machine/Ops.lean ====
section
/-! DEFINITION. The named operations over the parts of State that all commands share: lanes and ports, the byte memory of a
lane, sticky flags and events (R552, R553), the Reel (R496 to R504), lane mailboxes' records (R499), locks, modes (R469),
exclusion (R235, R240) and entry to CUT (R470). -/

namespace Sys2Proof

/-- The lanes in order of their letters. -/
def LaneId.all : List LaneId := [.a, .b, .c]

/-- Lane number: 0 = A, 1 = B, 2 = C (R66). -/
def LaneId.num : LaneId → Nat
  | .a => 0
  | .b => 1
  | .c => 2

/-- The lane with this number; C for 2 and 3. -/
def LaneId.ofNum (n : Nat) : LaneId := if n = 0 then .a else if n = 1 then .b else .c

/-- The lane set holds the lane. -/
def LaneId.inMask (l : LaneId) (m : LaneMask) : Bool := m.getLsbD l.num

/-- The value of one lane. -/
def Three.get {α : Type} (t : Three α) : LaneId → α
  | .a => t.a
  | .b => t.b
  | .c => t.c

/-- `t` with the value of one lane replaced. -/
def Three.set {α : Type} (t : Three α) (l : LaneId) (x : α) : Three α :=
  match l with
  | .a => { t with a := x }
  | .b => { t with b := x }
  | .c => { t with c := x }

/-- The ports in ascending order. -/
def Port.all : List Port := [.a, .b, .c, .d]

/-- Port number: A = 0 to D = 3 (R87). -/
def Port.num : Port → Nat
  | .a => 0
  | .b => 1
  | .c => 2
  | .d => 3

/-- The port that PEER_PORT codes (R87). -/
def Port.ofCode (c : BitVec 2) : Port := if c = 0 then .a else if c = 1 then .b else if c = 2 then .c else .d

/-- The value of one port. -/
def Four.get {α : Type} (t : Four α) : Port → α
  | .a => t.a
  | .b => t.b
  | .c => t.c
  | .d => t.d

/-- `t` with the value of one port replaced. -/
def Four.set {α : Type} (t : Four α) (p : Port) (x : α) : Four α :=
  match p with
  | .a => { t with a := x }
  | .b => { t with b := x }
  | .c => { t with c := x }
  | .d => { t with d := x }

/-- The ports at which `f` holds, in ascending order. -/
def Four.ports (t : Four Bool) : List Port := Port.all.filter t.get

end Sys2Proof

namespace Sys2Proof.Machine

open Sys2Proof

/-- The outcome of every meaning of the model: a next state. -/
abbrev Answer := Host.Outcome State Fault Refusal

/-! ### Lanes -/

/-- One lane of the module. -/
def State.lane (s : State) : LaneId → Lane
  | .a => s.laneA
  | .b => s.laneB
  | .c => s.laneC

/-- The module with one lane replaced. -/
def State.setLane (s : State) (l : LaneId) (x : Lane) : State :=
  match l with
  | .a => { s with laneA := x }
  | .b => { s with laneB := x }
  | .c => { s with laneC := x }

/-- One lane changed by `f`. -/
def State.onLane (s : State) (l : LaneId) (f : Lane → Lane) : State := s.setLane l (f (s.lane l))

/-- Every lane changed by `f`. -/
def State.onLanes (s : State) (f : LaneId → Lane → Lane) : State :=
  { s with laneA := f .a s.laneA, laneB := f .b s.laneB, laneC := f .c s.laneC }

/-- The lanes whose content satisfies `p`, in order. -/
def State.lanesWith (s : State) (p : Lane → Bool) : List LaneId := LaneId.all.filter fun l => p (s.lane l)

/-- The lane votes (R10). -/
def Lane.active (l : Lane) : Bool := decide (l.stat.state = .active)

/-- The lane's votes apply (R239): ACTIVE, and not since the last boundary work only. -/
def Lane.votes (l : Lane) : Bool := l.active && !l.stat.joins

/-- The lane evaluates takes: ACTIVE or RECOVERING (R239). -/
def Lane.evaluates (l : Lane) : Bool := decide (l.stat.state = .active ∨ l.stat.state = .recovering)

/-- Number of ACTIVE lanes. -/
def State.activeCount (s : State) : Nat := (s.lanesWith Lane.active).length

/-- The lowest-lettered ACTIVE lane, or A: the module's view of vital state that all voting lanes hold alike. DEDUCED from
R559 and R375 (log 12). -/
def State.voiceId (s : State) : LaneId := (s.lanesWith Lane.active).headD .a

/-- The content of that lane. -/
def State.voice (s : State) : Lane := s.lane s.voiceId

/-- One component of a lane's condition changed. -/
def Lane.onStat (l : Lane) (f : LaneStat → LaneStat) : Lane := { l with stat := f l.stat }

/-- The vital state of a lane changed. -/
def Lane.onVit (l : Lane) (f : Vital → Vital) : Lane := { l with vit := f l.vit }

/-- The fabric of a lane changed. -/
def Lane.onFab (l : Lane) (f : Fabric → Fabric) : Lane := { l with fab := f l.fab }

/-- The vital state changed alike in every lane that evaluates. -/
def State.onVital (s : State) (f : Vital → Vital) : State :=
  s.onLanes fun _ l => if l.evaluates then l.onVit f else l

/-! ### Byte memory of a lane -/

/-- What a cell that is not listed reads as. DESIGN CHOICE: 0 (log 11; unsafe). -/
def memDefault : Byte := 0

/-- The canonical form: addresses rise strictly and no listed cell holds `memDefault`. -/
def memWf : Memory → Bool
  | [] => true
  | c :: m => decide (c.2 ≠ memDefault) && m.all (fun d => decide (c.1 < d.1)) && memWf m

/-- One byte. -/
def memRead (m : Memory) (a : Nat) : Byte :=
  match m.find? fun c => decide (c.1 = a) with
  | some c => c.2
  | none => memDefault

/-- The listed cells of the bytes `l` from address `a`. -/
def memCells : Nat → Bytes → Memory
  | _, [] => []
  | a, b :: l => if b = memDefault then memCells (a + 1) l else (a, b) :: memCells (a + 1) l

/-- The bytes `l` stored from address `a` on. -/
def memStore (m : Memory) (a : Nat) (l : Bytes) : Memory :=
  m.filter (fun c => decide (c.1 < a)) ++ memCells a l ++ m.filter (fun c => decide (a + l.length ≤ c.1))

/-- `n` bytes from address `a`. -/
def memLoad (m : Memory) (a n : Nat) : Bytes :=
  let seg := m.filter fun c => decide (a ≤ c.1) && decide (c.1 < a + n)
  (List.range n).map fun i => memRead seg (a + i)

/-! ### Sticky flags and events -/

/-- The sixteen blocks of the register space (R20). -/
inductive Blk where
  | sys | adapt | lane | scrub | net | ses | pair | fio | reel | stg | sw | mbx | sem | pmc | wrap | pwr
  deriving DecidableEq, Repr

/-- Block number of a flag register (R552). -/
def Blk.num : Blk → Nat
  | .sys => 0
  | .adapt => 1
  | .lane => 2
  | .scrub => 3
  | .net => 4
  | .ses => 5
  | .pair => 6
  | .fio => 7
  | .reel => 8
  | .stg => 9
  | .sw => 10
  | .mbx => 11
  | .sem => 12
  | .pmc => 13
  | .wrap => 14
  | .pwr => 15

/-- A sticky flag register. -/
def FlagRegs.get (f : FlagRegs) : Blk → Word
  | .sys => f.sys
  | .adapt => f.adapt
  | .lane => f.lane
  | .scrub => f.scrub
  | .net => f.net
  | .ses => f.ses
  | .pair => f.pair
  | .fio => f.fio
  | .reel => f.reel
  | .stg => f.stg
  | .sw => f.sw
  | .mbx => f.mbx
  | .sem => f.sem
  | .pmc => f.pmc
  | .wrap => f.wrap
  | .pwr => f.pwr

/-- A sticky flag register replaced. -/
def FlagRegs.set (f : FlagRegs) (b : Blk) (w : Word) : FlagRegs :=
  match b with
  | .sys => { f with sys := w }
  | .adapt => { f with adapt := w }
  | .lane => { f with lane := w }
  | .scrub => { f with scrub := w }
  | .net => { f with net := w }
  | .ses => { f with ses := w }
  | .pair => { f with pair := w }
  | .fio => { f with fio := w }
  | .reel => { f with reel := w }
  | .stg => { f with stg := w }
  | .sw => { f with sw := w }
  | .mbx => { f with mbx := w }
  | .sem => { f with sem := w }
  | .pmc => { f with pmc := w }
  | .wrap => { f with wrap := w }
  | .pwr => { f with pwr := w }

/-- Event source `n` becomes pending, or merges where it already is (R553). -/
def evtPend (e : EvtSt) (n : Nat) : EvtSt :=
  if bit e.pend n then { e with merged := satInc e.merged } else { e with pend := setBit e.pend n true }

/-! ### Performance counters -/

/-- An event of the counters: code (R591), level of the token step (true = service), master and address, where it has them. -/
structure PmcEvent where
  code   : Byte
  level  : Option Bool
  master : Option (BitVec 3)
  addr   : Option Word
  deriving DecidableEq, Repr

/-- An address lies in a window (R593). -/
def inWindow (base lim a : Word) : Bool := decide (base.toNat ≤ a.toNat ∧ a.toNat ≤ lim.toNat)

/-- Every filter of a PMC_CFG passes (R592, R605); an event without an attribute passes its filter. -/
def pmcPasses (p : PmcSt) (c : Word) (e : PmcEvent) : Bool :=
  let code := field c 0 8
  let priv := field c 9 2
  let win := field c 16 2
  bit c 19 && (decide (code = e.code) || (bit c 8 && decide (field code 5 3 = field e.code 5 3)))
    && (match e.level with
        | none => true
        | some service => decide (priv = 0) || (decide (priv = 1) && !service) || (decide (priv = 2) && service))
    && (match e.master with
        | none => true
        | some m => !bit c 11 || decide (field c 12 3 = m))
    && (match e.addr with
        | none => true
        | some a =>
          decide (win = 0) || (decide (win = 1) && inWindow p.base0 p.lim0 a)
            || (decide (win = 2) && inWindow p.base1 p.lim1 a) || (decide (win = 3) && !inWindow p.base0 p.lim0 a))

/-- The counters of a block with `n` events of one kind added: what they hold, and the numbers of those that wrapped with
whether each of these samples (R589, R600). -/
def pmcAdd (p : PmcSt) (first cnt : Nat) (e : PmcEvent) (n : Nat) : List Counter × List (Nat × Bool) :=
  ((List.range p.counters.length).zip p.counters).foldr (fun (x : Nat × Counter) a =>
    let (i, c) := x
    if first ≤ i ∧ i < first + cnt ∧ pmcPasses p c.cfg e then
      ({ c with val := c.val + BitVec.ofNat 48 n } :: a.1,
       if 2 ^ 48 ≤ c.val.toNat + n then (i, bit c.cfg 18) :: a.2 else a.2)
    else (c :: a.1, a.2)) ([], [])

/-- The FREEZE token is issued (R595, R596): cause 1 write, 2 CUT, 3 wrap (R604). -/
def pmcIssue (p : PmcSt) (now : NetTime) (cause : BitVec 2) : PmcSt :=
  if p.stopped then p else { p with freeze := true, stopped := true, cause := cause, frzTime := now.word }

/-- `n` events fall in a block with `cnt` counters from `first` on. No counter counts while it is stopped. The two results say
whether WRAP and SAMPLE are set (R589, R600, R606); with FRZ_ON_WRAP a wrap freezes (R595). -/
def State.pmcBump (s : State) (first cnt : Nat) (e : PmcEvent) (n : Nat) : State × Bool × Bool :=
  if s.pmc.stopped ∨ n = 0 then (s, false, false)
  else
    let r := pmcAdd s.pmc first cnt e n
    let p := r.2.foldl (fun (p : PmcSt) x =>
      { p with wraps := setBit p.wraps x.1 true, lastWrap := BitVec.ofNat 8 x.1 }) { s.pmc with counters := r.1 }
    let w := decide (r.2 ≠ [])
    ({ s with pmc := if w ∧ p.onWrap then pmcIssue p s.now 3 else p }, w, r.2.any (·.2))

/-- The hardware sets flag bit `i` of a block's sticky register (R16, R552, R553): bits above 15 raise no event. A source that
becomes pending is itself an event of the coordinator's counters (R591, code 0xA4), whose wrap sets a flag in turn; the number
bounds that chain, which ends once WRAP and SAMPLE are pending. -/
def State.raiseN : Nat → State → Blk → Nat → State
  | 0, s, b, i =>
    { s with
      flags := s.flags.set b (setBit (s.flags.get b) i true)
      evt := if i < 16 then evtPend s.evt (16 * b.num + i) else s.evt }
  | k + 1, s, b, i =>
    let t : State := { s with
      flags := s.flags.set b (setBit (s.flags.get b) i true)
      evt := if i < 16 then evtPend s.evt (16 * b.num + i) else s.evt }
    if i < 16 ∧ ¬ bit s.evt.pend (16 * b.num + i) then
      let r := t.pmcBump 240 8 { code := 0xA4, level := none, master := none, addr := none } 1
      let t := if r.2.1 then State.raiseN k r.1 .pmc 0 else r.1
      if r.2.2 then State.raiseN k t .pmc 2 else t
    else t

/-- The hardware sets a flag bit. -/
def State.raise (s : State) (b : Blk) (i : Nat) : State := State.raiseN 3 s b i

/-- A counter of the block from `first` on samples: a lane's sequencer captures the instruction address at which the sample lands
(R600). Which address that is, the spec leaves open (log 33). -/
def State.sampled (s : State) (first : Nat) : State :=
  let s : State :=
    if 192 ≤ first ∧ first < 216 then
      let x := s.lane (LaneId.ofNum ((first - 192) / 8))
      { s.setLane (LaneId.ofNum ((first - 192) / 8)) { x with sample := Config.sampleAddr s.free } with free := s.free + 1 }
    else s
  s.raise .pmc 2

/-- `n` events are counted (R589). -/
def State.countN (s : State) (first cnt : Nat) (e : PmcEvent) (n : Nat) : State :=
  let r := s.pmcBump first cnt e n
  let t := if r.2.1 then r.1.raise .pmc 0 else r.1
  if r.2.2 then t.sampled first else t

/-- One event without level, master and address in a block. -/
def State.count (s : State) (first cnt : Nat) (code : Byte) : State :=
  s.countN first cnt { code := code, level := none, master := none, addr := none } 1

/-! ### The coordinator and register accesses -/

/-- The module is supplied beyond its supervisor (R8, R566): every mode but OFF and STAND-IN. -/
def State.supplied (s : State) : Bool := decide (s.sys.mode ≠ .off) && decide (s.sys.mode ≠ .standIn)

/-- The coordinator runs: the module is supplied, and no coordinator restart is in progress (R539). -/
def State.coordUp (s : State) : Bool := s.supplied && !s.mbx.restarting

/-- A register access is an event of the coordinator's counters (R591). -/
def State.accessEvent (s : State) (code : Byte) (m : BitVec 3) (a : Word) : State :=
  s.countN 240 8 { code := code, level := none, master := some m, addr := some a } 1

/-- An access of master `m` to address `a` (R15, R538, R539): `f` is its effect where the bus answers it, and `ok` whether the
registers admit it. Master 7 does not exist, and the coordinator itself makes no access while it restarts. -/
def State.access (s : State) (m : BitVec 3) (a : Word) (ok : Bool) (f : State → State) : State :=
  if ¬ s.supplied ∨ m = 7 ∨ (m = 0 ∧ s.mbx.restarting) then s
  else
    let s := s.accessEvent 0xA1 m a
    if ok ∧ ¬ (s.mbx.restarting ∧ 4 ≤ m.toNat) then f { s with bus := .ok }
    else State.accessEvent { s with bus := .error } 0xA2 m a

/-- As `raise`, where the condition holds. -/
def State.raiseIf (s : State) (c : Bool) (b : Blk) (i : Nat) : State := if c then s.raise b i else s

/-! ### The Reel -/

/-- A code's token bucket is in the table (R498: Limited). -/
def reelBucket (r : ReelSt) (code : Byte) : Option Bucket := r.buckets.find? fun b => decide (b.code = code)

/-- The bucket of a code changed. -/
def onBucket (r : ReelSt) (code : Byte) (f : Bucket → Bucket) : ReelSt :=
  { r with buckets := r.buckets.map fun b => if b.code = code then f b else b }

/-- Bytes 0 to 27 of a record (R496). -/
def recordBytes (r : Record) : Bytes :=
  toBytes 4 r.wcnt ++ [r.code, r.flags] ++ toBytes 2 r.source ++ toBytes 8 r.stamp ++ pad 12 r.data

/-- A position that reads as written under R497. -/
def recordWritten (r : ReelSt) (i : Nat) : Option Record :=
  match r.mram.find? fun e => decide (e.1 = i) with
  | some (_, x) => if x.wcnt = r.base + BitVec.ofNat 32 i ∧ x.check = crc32c (recordBytes x) then some x else none
  | none => none

/-- The record that a body becomes at index `i` (R496, R497). -/
def recordAt (node : NodeId) (base : Word) (i : Nat) (carried : Bool) (b : RecBody) : Record :=
  let r : Record :=
    { wcnt := base + BitVec.ofNat 32 i, code := b.code, flags := setBit (b.mask.zeroExtend 8) 3 carried,
      source := node ++ b.source, stamp := b.stamp, data := pad 12 b.data, check := 0 }
  { r with check := crc32c (recordBytes r) }

/-- MRAM position `i` overwritten. -/
def mramSet (m : List (Nat × Record)) (i : Nat) (r : Record) : List (Nat × Record) :=
  m.filter (fun e => decide (e.1 ≠ i)) ++ [(i, r)]

/-- Index of the ALMOST_FULL record (R504). -/
def almostIndex : Nat := 4128767

/-- Index of the FULL record (R504). -/
def fullIndex : Nat := 4194303

/-- A body stored at the next position. -/
def mramPut (node : NodeId) (r : ReelSt) (b : RecBody) : ReelSt :=
  { r with mram := mramSet r.mram r.wpos (recordAt node r.base r.wpos false b), wpos := r.wpos + 1,
           daily := { r.daily with written := r.daily.written + 1 } }

/-- A network time to 1 us (R338). -/
def toMicro (t : NetTime) : NetTime := { t with tick := t.tick - t.tick % 100 }

/-- One record of the Reel's own, stamped by the coordinator (R338, R504, R501). -/
def reelOwn (now : NetTime) (code : Byte) (data : Bytes) : RecBody :=
  { code := code, mask := 0, source := 5, stamp := (toMicro now).word, data := data }

/-- One buffered record written to MRAM with what R504 adds; a full Reel refuses it. -/
def mramWrite (node : NodeId) (now : NetTime) (r : ReelSt) (b : RecBody) : ReelSt :=
  if r.full then { r with lostFull := satInc r.lostFull }
  else
    let r := mramPut node r b
    if r.wpos = almostIndex then { mramPut node r (reelOwn now 0x04 []) with almost := true }
    else if r.wpos = fullIndex then { mramPut node r (reelOwn now 0x03 []) with full := true }
    else r

/-- The codes whose entry flushes the buffer at once (R500). -/
def flushCodes : List Byte := [0x03, 0x05, 0x10, 0x11, 0x12, 0x23, 0x28, 0x70]

/-- All pending records are written in buffer order (R500). While a clear runs they wait (R507). -/
def State.reelFlush (s : State) : State :=
  if s.reel.clearing ∨ s.reel.buffer = [] then s
  else
    let r := s.reel.buffer.foldl (mramWrite s.net.node s.now) { s.reel with buffer := [], flushing := true }
    let s' := { s with reel := r }
    (s'.raiseIf (r.almost && !s.reel.almost) .reel 1).raiseIf (r.full && !s.reel.full) .reel 0

/-- A body takes a free buffer entry, after the BUFFER_LOST record that is due; without one it is lost (R501). -/
def State.reelBuffer (s : State) (b : RecBody) : State :=
  let free := 512 - s.reel.buffer.length
  if free = 0 then
    State.raise { s with reel := { s.reel with bufLost := satInc s.reel.bufLost, lostNow := s.reel.lostNow + 1 } } .reel 2
  else if s.reel.lostNow ≠ 0 then
    let own := reelOwn s.now 0x05 (toBytes 4 s.reel.lostNow)
    if free = 1 then
      State.raise { s with reel := { s.reel with buffer := s.reel.buffer ++ [own], bufLost := satInc s.reel.bufLost,
                                                 lostNow := 1 } } .reel 2
    else { s with reel := { s.reel with buffer := s.reel.buffer ++ [own, b], lostNow := 0 } }
  else { s with reel := { s.reel with buffer := s.reel.buffer ++ [b] } }

/-- The flush that R500 makes at once: 512 records pending, or a record of its codes has entered. -/
def State.reelFlushNow (s : State) : State :=
  if s.reel.buffer.length ≥ 512 ∨ (s.reel.buffer.any fun b => flushCodes.contains b.code) then s.reelFlush else s

/-- A record enters the Reel: refused while full (R504), limited by its bucket (R502), then buffered (R500, R501). -/
def State.reelEnter (s : State) (b : RecBody) : State :=
  if s.reel.full ∧ ¬ s.reel.clearing then { s with reel := { s.reel with lostFull := satInc s.reel.lostFull } }
  else
    match reelBucket s.reel b.code with
    | some k =>
      if k.tokens = 0 then
        let rd := field s.now.round 0 32
        let r := onBucket s.reel b.code fun k =>
          { k with supp := satInc k.supp, first := if k.supp = 0 then rd else k.first, last := rd, lastAt := s.now }
        State.raise { s with reel := { r with suppr := satInc r.suppr,
                                              daily := { r.daily with suppressed := r.daily.suppressed + 1 } } } .reel 3
      else
        (State.reelBuffer { s with reel := onBucket s.reel b.code fun k => { k with tokens := k.tokens - 1 } } b).reelFlushNow
    | none => (s.reelBuffer b).reelFlushNow

/-- The stamp of an event of a source now (R338): lanes take the start of the running take, ring and pair ports the time to 10 ns, field
I/O and coordinator to 1 us. What control ports and power report enters the coordinator (DEDUCED, log 65). -/
def State.stampOf (s : State) (source : BitVec 4) : BitVec 64 :=
  (if source = 0 ∧ s.take.point ≠ .idle then s.take.start else if 4 ≤ source.toNat then toMicro s.now else s.now).word

/-- A record of a source that is no lane, stamped now (R338, R339, R496). -/
def State.record (s : State) (source : BitVec 4) (code : Byte) (data : Bytes) : State :=
  s.reelEnter { code := code, mask := 0, source := source, stamp := s.stampOf source, data := data }

/-- A lane reports a record for the boundary work of the take (R499): stamped with the take start (R338). -/
def Lane.submit (l : Lane) (code : Byte) (data : Bytes) : Lane :=
  { l with report := l.report ++ [{ code := code, mask := 0, source := 0, stamp := l.vit.hdr.start.word, data := data }] }

/-! ### Output -/

/-- Something goes out on a port. -/
def State.emit (s : State) (o : Output) : State := { s with out := s.out ++ [o] }

/-! ### Field outputs -/

/-- The pins of a group (R427), as bits of a pin mask. -/
def groupPins (g : Nat) : BitVec 48 := if 1 ≤ g ∧ g ≤ 6 then (0xFF : BitVec 48) <<< (8 * (g - 1)) else 0

/-- The field pins with a property, as a mask with bit p - 1 for pin p. -/
def pinMask (f : FioSt) (p : PinSt → Bool) : BitVec 48 :=
  ((List.range f.pins.length).zip f.pins).foldl (fun m e => if p e.2 then setBit m e.1 true else m) 0

/-- The groups with a property, as pins. -/
def groupMask (f : FioSt) (p : Nat → GroupSt → Bool) : BitVec 48 :=
  ((List.range f.groups.length).zip f.groups).foldl (fun m e => if p (e.1 + 1) e.2 then m ||| groupPins (e.1 + 1) else m) 0

/-- The channels that two of three switches command on (R229, R230, R458) and nothing holds off, by pin. -/
def energized (s : State) : BitVec 48 :=
  let c := fun (l : LaneId) => if (s.lane l).votes ∧ (s.fio.tokens.get l).alive then s.fio.cmd.get l else 0
  let two := (c .a &&& c .b) ||| (c .a &&& c .c) ||| (c .b &&& c .c)
  let off := pinMask s.fio (·.off) ||| groupMask s.fio fun _ g => g.held
  if s.fio.silent then 0 else two &&& ~~~off

/-- Each channel that has switched since `old` is an event of the field counters (R591). -/
def State.switched (s old : State) : State :=
  s.countN 232 8 { code := 0x82, level := none, master := none, addr := none } (popCount (energized old ^^^ energized s) 48)

/-! ### Locks (R557) -/

/-- The locks of master `m` are released; RESET_RELEASE sets where it held one. -/
def State.releaseLocks (s : State) (m : BitVec 3) : State :=
  if s.locks.contains (some m) then
    State.raise { s with locks := s.locks.map fun h => if h = some m then none else h } .sem 2
  else s

/-! ### Modes -/

/-- The mode codes of R468. -/
def Mode.code : Mode → BitVec 4
  | .off => 0x0
  | .standIn => 0x1
  | .boot => 0x2
  | .verify => 0x3
  | .ready => 0x4
  | .integrating => 0x5
  | .vital => 0x6
  | .degraded => 0x7
  | .cut => 0x8
  | .commissioning => 0x9
  | .witness => 0xA

/-- The role codes of R491. -/
def roleCode : Role → BitVec 2
  | .none => 0
  | .lead => 1
  | .second => 2

/-- The modes in which the module runs takes and sends vital telegrams (R8). -/
def Mode.runs (m : Mode) : Bool := decide (m = .vital ∨ m = .degraded ∨ m = .commissioning)

/-- The MODE register of R491. -/
def modeWord (y : SysSt) : Word :=
  (y.mode.code.zeroExtend 32) ||| place 32 4 (roleCode y.role) ||| ofBit 6 y.commissioning

/-- A mirror word replaced. -/
def mirrorSet (m : List (Word × Word)) (a w : Word) : List (Word × Word) :=
  m.filter (fun e => decide (e.1 ≠ a)) ++ [(a, w)]

/-- The module changes mode (R469): enrolment closes (R628), a MODE record (R498) is written, and outside running takes the MODE mirror at once, where no P6
would latch it. DEDUCED from R19, R471 and R491 (log 13). -/
def State.setMode (s : State) (m : Mode) : State :=
  if s.sys.mode = m then s
  else
    let old := s.sys.mode
    let s := { s with sys := { s.sys with mode := m }, pwr := { s.pwr with enrolOpen := false } }
    let s := s.record 5 0x10 ([old.code.zeroExtend 8, m.code.zeroExtend 8, (roleCode s.sys.role).zeroExtend 8]
      ++ toBytes 4 s.take.num)
    if m.runs then s
    else { s with mirror := { s.mirror with regs := mirrorSet s.mirror.regs 0x40000020 (modeWord s.sys) } }

/-- Entries into CUT that lie less than 24 h, 8,437,500 rounds, back (R470). -/
def recentCuts (now : NetTime) (l : List NetTime) : List NetTime :=
  l.filter fun t => decide (now.round.toNat < t.round.toNat + 8437500)

/-- A wrap test in progress is abandoned (R412, R578, R579): one WRAP record for each lane under test, flags, and a module wrap
without a complete result. -/
def State.wrapAbandon (s : State) : State :=
  if s.wrap.running then
    let one := decide (s.wrap.why = .lane)
    let lanes := if one then [s.wrap.lane] else LaneId.all
    let w := s.wrap
    let s := { s with wrap := { w with
                        running := false, why := .none, module := if one then w.module else 2
                        moduleOk := if one then w.moduleOk else decide (69 ≤ w.slice) && !(w.failing.any fun n => decide (n ≤ 68))
                        nvFail := if one then w.nvFail else w.failing.any fun n => decide (69 ≤ n)
                        wrapCycle := if one then w.wrapCycle else none }
                      pair := { s.pair with wrapLane := 0 } }
    let s := lanes.foldl (fun s l => s.record 5 0x2B [BitVec.ofNat 8 l.num, 3]) s
    (s.raise .wrap 3).raiseIf one .pair 12
  else s

/-- Entry to CUT (R11, R41, R470, R471): telegrams stop, field outputs switch off, HEALTHY falls, the lanes' sequencers stop;
CUT record with the triggering rule and lane; the restart store counts the entry and a third within 24 h blocks the automatic
restart. From a mode that cannot enter CUT nothing happens. -/
def State.enterCut (s : State) (rule : Nat) (lane : Byte) : State :=
  if s.sys.mode.runs ∨ s.sys.mode = .witness then
    let old := s
    let s := s.setMode .cut
    let s := s.record 5 0x12 (toBytes 2 (BitVec.ofNat 16 rule) ++ [lane] ++ toBytes 4 s.take.num)
    let s := s.raise .sys 0
    let s := s.onLanes fun _ l =>
      { l with
        store := { l.store with cuts := (l.store.cuts ++ [s.now]).drop (l.store.cuts.length - 2) }
        fab := { l.fab with running := false }
        stat := { l.stat with running := false, waiting := false, steps := [] }
        eff := { payloads := [], pins := 0 }
        check := none }
    let blocked := decide (3 ≤ (recentCuts s.now s.laneA.store.cuts).length)
    let s := { s with
      sys := { s.sys with cutAt := s.now, autoBlocked := blocked, vitalEn := false, modePend := none }
      take := { s.take with ran := false, point := .idle }
      fio := { s.fio with enable := false, cmd := Three.rep 0 }
      pair := { s.pair with sending := false, paired := false }
      wrap := { s.wrap with cutCycle := some s.wrap.cycle }
      reel := { s.reel with daily := { s.reel.daily with cuts := satInc s.reel.daily.cuts } } }
    let s := s.raiseIf blocked .sys 1
    let s := s.wrapAbandon.switched old
    if s.pmc.onCut then { s with pmc := pmcIssue s.pmc s.now 2 } else s
  else s

/-- The mode that R11, R251 and R396 give for the number of ACTIVE lanes. `rule` and `lane` name the trigger of a CUT. -/
def State.settleMode (s : State) (rule : Nat) (lane : Byte) : State :=
  let n := s.activeCount
  if s.sys.mode.runs then
    if n < 2 then s.enterCut rule lane
    else if n = 2 ∧ s.sys.mode = .vital then s.setMode .degraded
    else if n = 3 ∧ s.sys.mode = .degraded then s.setMode .vital
    else s
  else if s.sys.mode = .witness ∧ n < 2 then s.enterCut 396 lane
  else s

/-! ### Lane states -/

/-- The lane state codes of R255. -/
def laneCode : LaneState → BitVec 3
  | .active => 0
  | .excluded => 1
  | .recovering => 2
  | .shutdown => 3
  | .unusable => 4

/-- A lane changes state: a LANE_STATE record (R498). -/
def State.setLaneState (s : State) (l : LaneId) (n : LaneState) : State :=
  let old := (s.lane l).stat.state
  if old = n then s
  else
    (s.onLane l fun x => x.onStat fun t => { t with state := n }).record 0 0x29
      [BitVec.ofNat 8 l.num, (laneCode old).zeroExtend 8, (laneCode n).zeroExtend 8]

/-- A lane leaves ACTIVE and RECOVERING: its mailbox copies read empty, with TX_FREE where the last FULL clears (R546), its
cores reset and its locks are released (R557). -/
def State.laneLeaves (s : State) (l : LaneId) : State :=
  let freed := fun (k : Nat) => ((s.lane l).mbx.getD k { words := [], len := 0, full := false, cmp := none }).full &&
    LaneId.all.all fun o => decide (o = l) || !((s.lane o).mbx.getD k { words := [], len := 0, full := false, cmp := none }).full
  let any := (List.range 4).any freed
  let s := s.onLane l fun x =>
    { x with
      mbx := x.mbx.map fun c => { c with full := false, cmp := none }
      fab := { x.fab with running := false }
      check := none
      txBuf := []
      stat := { x.stat with running := false, waiting := false, steps := [], ready := false, matchCnt := 0, joins := false } }
  (s.raiseIf any .mbx 12).releaseLocks (BitVec.ofNat 3 (l.num + 1))

/-- A lane is excluded (R235, R231, R242): from ACTIVE, or back from RECOVERING with a failed recovery (R239). The exclusion,
with its cause, is written to the Reel; DEBUG does not count toward R240 (R252). -/
def State.dropLane (s : State) (l : LaneId) (cause : Byte) : State :=
  let x := s.lane l
  if x.evaluates then
    let failed := decide (x.stat.state = .recovering)
    let old := s
    let s := s.laneLeaves l
    let s := s.onLane l fun x => x.onStat fun t =>
      { t with
        cause := cause, causeTake := s.take.num, exclCnt := satInc t.exclCnt
        exclTakes := if cause = 0x08 then t.exclTakes else t.exclTakes ++ [s.take.num]
        failCnt := if failed ∧ cause ≠ 0x08 then satInc t.failCnt else t.failCnt
        reload := t.reload || decide (cause = 0x05 ∨ cause = 0x06), resetReq := false }
    let s := (s.setLaneState l .excluded).switched old
    let s := s.raise .lane 0
    s.record 0 0x28 ([BitVec.ofNat 8 l.num, cause] ++ toBytes 4 s.take.num)
  else s

/-- A lane is excluded, and the mode follows R11. -/
def State.excludeLane (s : State) (l : LaneId) (cause : Byte) (rule : Nat) : State :=
  (s.dropLane l cause).settleMode rule (BitVec.ofNat 8 l.num)

/-- Several lanes are excluded with one cause; all exclusions count together before the mode is decided (R226). -/
def State.excludeLanes (s : State) (ls : List LaneId) (cause : Byte) (rule : Nat) : State :=
  match ls with
  | [] => s
  | l :: _ => (ls.foldl (fun s l => s.dropLane l cause) s).settleMode rule (BitVec.ofNat 8 l.num)

end Sys2Proof.Machine
end

