-- ==== Sys2Proof/Machine/Cores.lean ====
section
/-! DEFINITION. The lockstep pair of a lane's sequencer (R244 to R248): the token steps between the main core and Continuity, the write
and the replay buffer, the wait for an event, and a break. The spec gives neither the sequencer's code nor when it waits: in the model
the pair runs from D, where the boundary work begins, to B, and from readiness for recovery to the next B; at every other time it waits
(DESIGN CHOICE, log 120). A value that the monitor finds different comes as LOCKSTEP_BREAK. -/

namespace Sys2Proof.Machine

open Sys2Proof

/-- The main core retires a token step (R244): a write waits in the write buffer (R246), read data in the replay buffer with its check
symbols (R247). -/
def LaneStat.mainStep (t : LaneStat) (x : TokenStep) : LaneStat :=
  { t with steps := t.steps ++ [{ x with read := x.read.map rsEncode }] }

/-- Continuity retires the oldest outstanding step with an equal result: its write leaves the sequencer (R246). -/
def LaneStat.contStep (t : LaneStat) : LaneStat := { t with steps := t.steps.drop 1 }

/-- One token step while the stream runs (R244): Continuity executes step j after the main core has retired step j + 2, and the main
core begins step j + 3 after Continuity has retired step j. -/
def LaneStat.pairStep (t : LaneStat) (x : TokenStep) : LaneStat :=
  let t := t.mainStep x
  if 3 ≤ t.steps.length then t.contStep else t

/-- An event arrives: the main core resumes, and Continuity begins two steps behind it (R245). -/
def LaneStat.resume (t : LaneStat) (n : Nat) : LaneStat :=
  (({ t with running := true, waiting := false }.pairStep (Config.tokenStep n)).pairStep (Config.tokenStep (n + 1))).pairStep
    (Config.tokenStep (n + 2))

/-- Continuity's own check of the code over the replay buffer (R247). -/
def LaneStat.replayOk (t : LaneStat) : Bool :=
  t.steps.all fun x => match x.read with | some w => decide (rsDecode w = .ok w 0 0) | none => true

/-- The main core enters a wait: Continuity retires the outstanding steps, and both cores wait (R245). -/
def LaneStat.rest (t : LaneStat) : LaneStat := { t with running := false, waiting := true, steps := [] }

/-- Both cores are reset or stop (R235, R248): a write that is still held is discarded. -/
def LaneStat.halt (t : LaneStat) : LaneStat := { t with running := false, waiting := false, steps := [] }

/-- The gap between the cores (R244, R258). -/
def LaneStat.gap (t : LaneStat) : BitVec 2 := BitVec.ofNat 2 t.steps.length

/-- The cores of the lanes that evaluate resume. -/
def State.resumeCores (s : State) : State :=
  State.onLanes { s with free := s.free + 9 } fun id l => if l.evaluates then l.onStat fun t => t.resume (s.free + 3 * id.num) else l

end Sys2Proof.Machine
end

