-- ==== Sys2Proof/Machine/Operands.lean ====
section
/-! DEFINITION. The fields of the structures that commands and images carry: tile configuration (R86 to R88, R121), state
vector (R89), tokens (R70), route-table entries (R177), and the memory addresses of the planes (R90, R95). -/

namespace Sys2Proof.Machine

open Sys2Proof

/-! ### Tile configuration (R86) -/

/-- The personalities of R116. -/
inductive Pers where
  | empty | track | point | signal | doors | buffer | boundary | plunger | auxlogic | reserved
  deriving DecidableEq, Repr

/-- The personality that a code names (R116, R117). -/
def Pers.ofCode (c : BitVec 4) : Pers :=
  if c = 0 then .empty else if c = 1 then .track else if c = 2 then .point else if c = 3 then .signal
  else if c = 4 then .doors else if c = 5 then .buffer else if c = 6 then .boundary else if c = 7 then .plunger
  else if c = 8 then .auxlogic else .reserved

/-- PERS. -/
def cfgPersCode (c : TileCfg) : BitVec 4 := field c 0 4
/-- The personality of a configuration. -/
def cfgPers (c : TileCfg) : Pers := Pers.ofCode (cfgPersCode c)
/-- FMT. -/
def cfgFmt (c : TileCfg) : BitVec 4 := field c 4 4
/-- ELEM_ID. -/
def cfgElem (c : TileCfg) : Elem := field c 8 12
/-- SPARE. -/
def cfgSpare (c : TileCfg) : Bool := bit c 20
/-- The port descriptor of a port (R87). -/
def cfgPort (c : TileCfg) (p : Port) : Word := field c (32 + 32 * p.num) 32
/-- IN_BIND. -/
def cfgIn (c : TileCfg) : Word := field c 160 32
/-- OUT_BIND. -/
def cfgOut (c : TileCfg) : Word := field c 192 32
/-- PARAM. -/
def cfgParam (c : TileCfg) : BitVec 256 := field c 224 256
/-- ROUTE_FIRST. -/
def cfgRouteFirst (c : TileCfg) : RouteId := field c 480 13
/-- ROUTE_CNT. -/
def cfgRouteCnt (c : TileCfg) : BitVec 8 := field c 493 8
/-- A field of PARAM. -/
def param (c : TileCfg) (lo n : Nat) : BitVec n := field c (224 + lo) n
/-- A bit of PARAM. -/
def paramBit (c : TileCfg) (i : Nat) : Bool := bit c (224 + i)

/-- LINKED of a descriptor (R87). -/
def portLinked (d : Word) : Bool := bit d 0
/-- PEER_PORT. -/
def portPeer (d : Word) : Port := Port.ofCode (field d 1 2)
/-- PEER_ADDR. -/
def portAddr (d : Word) : Elem := field d 3 12
/-- VIA_GW. -/
def portViaGw (d : Word) : Bool := bit d 15
/-- GW. -/
def portGw (d : Word) : BitVec 6 := field d 16 6
/-- UPLINK. -/
def portUplink (d : Word) : BitVec 4 := field d 22 4
/-- A port of a tile takes part in a link. -/
def cfgLinked (c : TileCfg) (p : Port) : Bool := portLinked (cfgPort c p)

/-- SRC of a binding (R88). -/
def bindSrc (b : Word) : BitVec 2 := field b 0 2
/-- SES_ID. -/
def bindSes (b : Word) : SesId := field b 2 9
/-- BIT_OFS. -/
def bindOfs (b : Word) : BitVec 8 := field b 11 8
/-- PIN. -/
def bindPin (b : Word) : Pin := field b 19 6
/-- Number of bits bound: WIDTH + 1. -/
def bindBits (b : Word) : Nat := (field b 25 3).toNat + 1

/-- The route is an own route of the SIGNAL (04, terms). -/
def isOwn (c : TileCfg) (r : RouteId) : Bool :=
  decide (cfgPers c = .signal) && decide ((cfgRouteFirst c).toNat ≤ r.toNat) &&
    decide (r.toNat < (cfgRouteFirst c).toNat + (cfgRouteCnt c).toNat)

/-- The route-path ports of a personality (R122). -/
def routePorts : Pers → List Port
  | .track | .signal => [.a, .b]
  | .point => [.a, .b, .c]
  | .buffer | .boundary => [.a]
  | _ => []

/-- The personality codes that a receiving port accepts in a STATE token (R122, R123, R136). -/
def senderFits (c : TileCfg) (p : Port) (code : BitVec 4) : Bool :=
  let l : List (BitVec 4) :=
    match cfgPers c, p with
    | .track, .a | .track, .b => [1, 2, 3, 5, 6]
    | .track, _ | .signal, .c | .signal, .d => [4, 7, 8]
    | .point, .d => if paramBit c 33 then [2] else [7, 8]
    | .point, _ | .signal, _ => [1, 2, 3]
    | .doors, .a => [1]
    | .doors, _ => [3]
    | .buffer, .a | .boundary, .a => [1]
    | .plunger, _ => [1, 2, 3]
    | .auxlogic, _ => [1, 2, 3, 8]
    | _, _ => []
  l.contains code

/-! ### State vector (R89) -/

/-- The vector of an element that holds nothing. -/
def TileVec.zero : TileVec :=
  { pers := 0, restrict := false, forced := false, fault := false, route := 0, hold := 0, tmr := 0, pstate := 0 }

/-- The 64 bits of a state vector. -/
def vecWord (v : TileVec) : BitVec 64 :=
  place 64 0 v.pers ||| ofBit 4 v.restrict ||| ofBit 5 v.forced ||| ofBit 6 v.fault ||| place 64 8 v.route
    ||| place 64 21 v.hold ||| place 64 24 v.tmr ||| place 64 40 v.pstate

/-- The vector of an element in a list of vectors; zero where it holds none. -/
def vecOf (l : List (Elem × TileVec)) (e : Elem) : TileVec :=
  match l.find? fun x => decide (x.1 = e) with
  | some x => x.2
  | none => TileVec.zero

/-- The vector of one element changed. -/
def vecMap (l : List (Elem × TileVec)) (e : Elem) (f : TileVec → TileVec) : List (Elem × TileVec) :=
  l.map fun x => if x.1 = e then (x.1, f x.2) else x

/-- Bit `i` of PSTATE (R121). -/
def ps (v : TileVec) (i : Nat) : Bool := bit v.pstate i

/-- PSTATE bit `i` set to `b`. -/
def psSet (v : TileVec) (i : Nat) (b : Bool) : TileVec := { v with pstate := setBit v.pstate i b }

/-- A PSTATE field replaced. -/
def psField {n : Nat} (v : TileVec) (lo : Nat) (x : BitVec n) : TileVec := { v with pstate := setField v.pstate lo x }

/-! ### Tokens (R70, R71) -/

/-- The none token (R72). -/
def tokNone : Token := { kind := 0, route := 0, arg := 0 }
/-- REQUEST. -/
def tokRequest (r : RouteId) (arg : BitVec 4) : Token := { kind := 1, route := r, arg := arg }
/-- CONFIRM. -/
def tokConfirm (r : RouteId) (arg : BitVec 4) : Token := { kind := 2, route := r, arg := arg }
/-- LOCK. -/
def tokLock (r : RouteId) (arg : BitVec 4) : Token := { kind := 3, route := r, arg := arg }
/-- RELEASE. -/
def tokRelease (r : RouteId) (arg : BitVec 4) : Token := { kind := 4, route := r, arg := arg }
/-- STATE, with the sender's personality code (R136). -/
def tokState (pers arg : BitVec 4) : Token := { kind := 5, route := pers.zeroExtend 13, arg := arg }
/-- REJECT with a cause (R186). -/
def tokReject (r : RouteId) (cause : BitVec 3) : Token := { kind := 6, route := r, arg := cause.zeroExtend 4 }
/-- BAR. -/
def tokBar : Token := { kind := 7, route := 0, arg := 0 }

/-! ### Route table (R177) -/

/-- ENTRY. -/
def rtEntry (e : Quad) : Elem := field e 0 12
/-- EXIT. -/
def rtExit (e : Quad) : Elem := field e 12 12
/-- VIA. -/
def rtVia (e : Quad) : Elem := field e 24 12
/-- VIA_EN. -/
def rtViaEn (e : Quad) : Bool := bit e 36
/-- PATH_LEN. -/
def rtPathLen (e : Quad) : BitVec 8 := field e 38 8
/-- FACING. -/
def rtFacing (e : Quad) : BitVec 16 := field e 46 16
/-- FACING_CNT. -/
def rtFacingCnt (e : Quad) : BitVec 5 := field e 62 5
/-- OVL_LEN. -/
def rtOvlLen (e : Quad) : BitVec 2 := field e 67 2
/-- OVL_CLASS. -/
def rtOvlClass (e : Quad) : BitVec 2 := field e 69 2
/-- FLANK. -/
def rtFlank (e : Quad) : Bool := bit e 71
/-- CLASS. -/
def rtClass (e : Quad) : BitVec 4 := field e 72 4
/-- APPR_IDX. -/
def rtApprIdx (e : Quad) : BitVec 6 := field e 76 6
/-- ERL_IDX. -/
def rtErlIdx (e : Quad) : BitVec 6 := field e 82 6
/-- DOOR_DEP. -/
def rtDoorDep (e : Quad) : Bool := bit e 88
/-- VALID. -/
def rtValid (e : Quad) : Bool := bit e 127

/-! ### The planes in the memory of a lane -/

/-- Address of codeword `k` (0 or 1) of the tile at physical address `t` in plane `p` (R90, R95). -/
def cfgAddr (p : Bool) (t k : Nat) : Nat := (((if p then 4096 else 0) + t) * 2 + k) * 36

/-- Address of codeword `k` (0 to 4,095) of route-table plane `p` (R95: two entries a codeword). -/
def rtAddr (p : Bool) (k : Nat) : Nat := 589824 + ((if p then 4096 else 0) + k) * 36

/-- The 32 data bytes of a codeword as the decoder gives them (R96); as stored where it cannot be decoded. -/
def cwData (m : Memory) (a : Nat) : Bytes :=
  match rsDecode (memLoad m a 36) with
  | .ok w _ _ => w.take 32
  | .uncorrectable => (memLoad m a 36).take 32

/-- A codeword written: 32 data bytes and their check bytes. -/
def cwStore (m : Memory) (a : Nat) (data : Bytes) : Memory := memStore m a (rsEncode data)

/-- The 512 configuration bits of the tile at a physical address, most significant byte first (R13). -/
def planeTile (m : Memory) (p : Bool) (t : Nat) : TileCfg :=
  ofBytes 512 (cwData m (cfgAddr p t 0) ++ cwData m (cfgAddr p t 1))

/-- A tile configuration written to a plane. -/
def planeStore (m : Memory) (p : Bool) (t : Nat) (c : Bytes) : Memory :=
  cwStore (cwStore m (cfgAddr p t 0) (slice c 0 32)) (cfgAddr p t 1) (slice c 32 32)

/-- A route-table entry of a plane. -/
def planeRoute (m : Memory) (p : Bool) (r : Nat) : Quad :=
  getBE 128 (cwData m (rtAddr p (r / 2))) (16 * (r % 2)) 16

/-- Plane of region `r` that is active (R90). -/
def activePlane (g : RegionState) (r : Nat) : Bool := bit g.active r

/-- The region of a physical address or element identifier. -/
def regionOf (e : Elem) : Nat := (field e 8 4).toNat

/-- The physical address of a logical position under R102. -/
def placed (l : LaneId) (e : Elem) : Elem :=
  let r := field e 8 4
  let c := field e 4 4
  let t := field e 0 4
  match l with
  | .a => e
  | .b => r ++ ((15 - c) ++ (15 - t))
  | .c => r ++ ((c + 5) ++ t)

/-- The relocation entry of a lane and region (R103, R265, R269). -/
def relocOf (d : StationData) (l : LaneId) (region : Nat) : Option Bytes :=
  (d.relocs.find? fun x => decide (x.1.toNat = 16 * l.num + region)).map (·.2)

end Sys2Proof.Machine
end

