-- ==== Sys2Proof/Machine/Flags.lean ====
section
/-! DEFINITION. What a tile derives from its bindings and its state: bound inputs with their restrictive values and forces
(R124, R126, R128, R484), the STATE argument (R134, R137), holding conditions (R169), and the bound outputs of P6 (R129, R130). -/

namespace Sys2Proof.Machine

open Sys2Proof

/-- What the rushes and the configuration give one tile for the take (R74, R181). `mute`: its region is held restrictive, or
its latches hold a reserved code (R118, R132). -/
structure TileCtx where
  cfg    : TileCfg
  elem   : Elem
  latch  : Option RouteLatch
  exit   : Option ExitMark
  via    : Option RouteId
  barred : Bool
  mute   : Bool
  snap   : Snapshot
  force  : List ForceEntry
  settle : Bool

/-- What a tile gives the lane in a wave step beside its tokens: route outcomes with "the request was a HELD one", the start
of approach locking, the release at its end, the outcome of an individual call, and a queue of more than 4 tokens (R193). -/
inductive TileEv where
  | outcome (route : RouteId) (code : Byte) (cause : BitVec 3) (held : Bool)
  | approach (route : RouteId)
  | released (route : RouteId)
  | called (elem : Elem) (code : Byte) (cause : BitVec 3)
  | overflow
  deriving DecidableEq, Repr

/-- A tile at work in one wave step: state vector, wave register, port queues, and what it gives the lane. -/
structure TileSt where
  vec   : TileVec
  wr    : WaveReg
  queue : Four (List Token)
  evs   : List TileEv
  deriving DecidableEq, Repr

/-! ### Bound inputs -/

/-- Restrictive values of the bound inputs of a personality (R126); `cls` is the CLASS of a PLUNGER. -/
def inRestrictive (p : Pers) (cls : BitVec 2) : BitVec 8 :=
  match p with
  | .track => 0b010
  | .point => 0b10000
  | .doors => 0b1100
  | .boundary => 0b0010
  | .plunger => if cls = 2 then 0b01 else 0b10
  | _ => 0

/-- Lowest bits of the two-bit input fields in which 0b11 is invalid (R126). -/
def pairFields : Pers → List Nat
  | .track => [0]
  | .point => [0, 3]
  | .doors => [0]
  | .plunger => [0]
  | _ => []

/-- One bound input bit before R128; none where the session is stale or the pin restricted. -/
def inRaw (x : TileCtx) (i : Nat) : Option Bool :=
  let b := cfgIn x.cfg
  if bindSrc b = 1 then
    (x.snap.sesIn.find? fun e => decide (e.1 = bindSes b)).map fun e => e.2.getLsbD ((bindOfs b).toNat + i)
  else if bindSrc b = 2 then
    let n := (bindPin b).toNat + i - 1
    if bit x.snap.rmask n then none else some (bit x.snap.inX n)
  else none

/-- The bits that an entry of the force and blocking table names (R482). -/
def entryMask (e : ForceEntry) : BitVec 8 :=
  (List.range 8).foldl (fun m i =>
    setBit m i (decide (e.first.toNat ≤ i) && decide (i ≤ e.first.toNat + e.width.toNat))) 0

/-- The bits of `v` that an entry names, replaced by its VALUE. -/
def applyValue (v : BitVec 8) (e : ForceEntry) : BitVec 8 :=
  (v &&& ~~~(entryMask e)) ||| ((e.value <<< e.first.toNat) &&& entryMask e)

/-- The bits of `v` that an entry names, replaced by those of `r`. -/
def applyRestrictive (r v : BitVec 8) (e : ForceEntry) : BitVec 8 :=
  (v &&& ~~~(entryMask e)) ||| (r &&& entryMask e)

/-- The entries of one TYPE that name an element (R483). -/
def entriesOf (l : List ForceEntry) (e : Elem) (ty : Byte) : List ForceEntry :=
  l.filter fun x => decide (x.target = e ∧ x.type = ty)

/-- The bound inputs of a tile in P1: values, the bits replaced by their restrictive value, and a code 0b11 (R128, R484). -/
structure TileIn where
  bits     : BitVec 8
  replaced : BitVec 8
  blocked  : BitVec 8
  invalid  : Bool
  deriving DecidableEq, Repr

/-- R124, R128, then FORCE_IN, then BLOCK_IN (R484). -/
def tileInputs (x : TileCtx) : TileIn :=
  let p := cfgPers x.cfg
  let b := cfgIn x.cfg
  let n := if bindSrc b = 0 then 0 else bindBits b
  let r := inRestrictive p (param x.cfg 0 2)
  let replaced : BitVec 8 := (List.range n).foldl (fun m i => setBit m i (inRaw x i).isNone) 0
  let raw : BitVec 8 := (List.range n).foldl (fun m i => setBit m i ((inRaw x i).getD (bit r i))) 0
  let bad := (pairFields p).filter fun i => decide (i + 1 < n) && bit raw i && bit raw (i + 1)
  let v := bad.foldl (fun v i => setField v i (field r i 2)) raw
  let v := (entriesOf x.force x.elem 0x01).foldl applyValue v
  let blocks := entriesOf x.force x.elem 0x03
  { bits := blocks.foldl (applyRestrictive r) v, replaced := replaced,
    blocked := blocks.foldl (fun m e => m ||| entryMask e) 0, invalid := decide (bad ≠ []) }

/-- VAC read clear (R126, R146). -/
def rawClear (p : Pers) (i : TileIn) : Bool :=
  if p = .point then decide (field i.bits 3 2 = 0b01#2) else decide (field i.bits 0 2 = 0b01#2)

/-- The own DET of a POINT (R149). -/
def ownDet (x : TileCtx) (i : TileIn) : BitVec 2 :=
  let d := field i.bits 0 2
  if d = 0b11 ∨ (paramBit x.cfg 32 ∧ ¬ bit i.bits 2) then 0 else d

/-! ### State bits -/

/-- CLEAR of a TRACK or POINT. -/
def secClear (p : Pers) (v : TileVec) : Bool := if p = .point then ps v 6 else ps v 0

/-- RAW of a TRACK or POINT. -/
def secRaw (p : Pers) (v : TileVec) : Bool := if p = .point then ps v 7 else ps v 1

/-- CLEAR, or RAW in the restart settle period (R478). -/
def secPassed (x : TileCtx) (v : TileVec) : Bool :=
  if x.settle then secRaw (cfgPers x.cfg) v else secClear (cfgPers x.cfg) v

/-- SEEN_OCC set or cleared (R207). -/
def setSeen (p : Pers) (v : TileVec) (b : Bool) : TileVec :=
  match p with
  | .track => psSet v 4 b
  | .point => psSet v 8 b
  | _ => v

/-- SEEN_OCC. -/
def seenOcc (p : Pers) (v : TileVec) : Bool :=
  match p with
  | .track => ps v 4
  | .point => ps v 8
  | _ => false

/-- DET of a POINT. -/
def pointDet (v : TileVec) : BitVec 2 := field v.pstate 0 2
/-- CALL of a POINT. -/
def pointCall (v : TileVec) : BitVec 2 := field v.pstate 2 2
/-- ASPECT of a SIGNAL. -/
def sigAspect (v : TileVec) : BitVec 3 := field v.pstate 0 3
/-- APPROACH of a SIGNAL. -/
def sigApproach (v : TileVec) : Bool := ps v 12

/-- A holding condition stands on a condition port (R169): HOLD_C = 1 of a PLUNGER or Q = 1 of an AUXLOGIC. -/
def holdCond (w : WaveReg) : Bool :=
  Port.all.any fun p =>
    match w.ps.get p with
    | some (arg, pers) => decide (pers = 7 ∨ pers = 8) && bit arg 0
    | none => false

/-- The restrictive ARG bits 2:0 of a STATE token (R137). -/
def argRestrictive (c : TileCfg) : BitVec 3 :=
  match cfgPers c with
  | .track => 0b010
  | .signal => 0b100
  | .doors => 0b110
  | .boundary => 0b010
  | .plunger => if param c 0 2 = 2 then 0b001 else 0b011
  | .auxlogic => 0b001
  | _ => 0

/-- Three ARG bits. -/
def bits3 (b0 b1 b2 : Bool) : BitVec 3 := ofBit 0 b0 ||| ofBit 1 b1 ||| ofBit 2 b2

/-- ARG bits 2:0 of a STATE token without restriction (R137). -/
def argPlain (c : TileCfg) (v : TileVec) : BitVec 3 :=
  match cfgPers c with
  | .track => bits3 (ps v 0) (decide (v.hold ≠ 0)) (ps v 2)
  | .point => bits3 (ps v 0) (ps v 1) (ps v 6)
  | .signal => bits3 (decide (sigAspect v ≠ 0)) (ps v 11) (ps v 10)
  | .doors => bits3 (ps v 0) (ps v 1) (ps v 2)
  | .buffer => bits3 (ps v 0) false false
  | .boundary => bits3 (ps v 2 && ps v 0) (ps v 1) (ps v 3)
  | .plunger => bits3 (ps v 0) (ps v 1) false
  | .auxlogic => bits3 (ps v 0) (ps v 1) false
  | _ => 0

/-- The ARG that a tile sends (R134, R137, R149): on every port but D of a coupled POINT, and on that port. -/
def stateArgs (x : TileCtx) (v : TileVec) : BitVec 4 × BitVec 4 :=
  if v.restrict then
    let a := BitVec.cons true (argRestrictive x.cfg)
    (a, a)
  else
    let a := BitVec.cons false (argPlain x.cfg v)
    if cfgPers x.cfg = .point ∧ paramBit x.cfg 33 then (a, setField a 0 (ownDet x (tileInputs x))) else (a, a)

/-! ### Bound outputs -/

/-- Restrictive values of the bound outputs (R129). -/
def outRestrictive : Pers → BitVec 8
  | .boundary => 0b0010
  | _ => 0

/-- The bound output bits that PSTATE holds (R129, R168); `proceed` is PROCEED of the entry signal of the held route. -/
def outPlain (x : TileCtx) (v : TileVec) (w : WaveReg) (proceed : Bool) : BitVec 8 :=
  match cfgPers x.cfg with
  | .point => (pointCall v).zeroExtend 8
  | .signal => (sigAspect v).zeroExtend 8
  | .doors => ofBit 0 (ps v 1)
  | .boundary =>
    ofBit 0 (match w.ps.a with | some (arg, _) => bit arg 0 | none => false) ||| ofBit 1 (ps v 5) ||| ofBit 2 (ps v 4)
      ||| ofBit 3 proceed
  | .plunger => ofBit 0 (ps v 0)
  | .auxlogic => ofBit 0 (!ps v 0)
  | _ => 0

/-- The output bits that P6 latches: R130, then FORCE_OUT, then BLOCK_OUT and DROP_HOLD (R484). -/
def tileOutputs (x : TileCtx) (enabled : Bool) (v : TileVec) (w : WaveReg) (proceed : Bool) : BitVec 8 :=
  let r := outRestrictive (cfgPers x.cfg)
  let o := if ¬ enabled ∨ v.restrict then r else outPlain x v w proceed
  let o := (entriesOf x.force x.elem 0x02).foldl applyValue o
  let o := (entriesOf x.force x.elem 0x04).foldl (applyRestrictive r) o
  if entriesOf x.force x.elem 0x06 ≠ [] then r else o

end Sys2Proof.Machine
end

