-- ==== Sys2Proof/Machine/Tiles.lean ====
section
/-! DEFINITION. What each personality does in P1, the permission delay of P2 and the aspect evaluation of P5 (03). -/

namespace Sys2Proof.Machine

open Sys2Proof

/-- FAULT from a proving failure (R131): MOVE_FAIL, LAMP_FAIL or CLOSE_FAIL is 1. -/
def provingFault (p : Pers) (v : TileVec) : Bool :=
  match p with
  | .point => ps v 5
  | .signal => ps v 10
  | .doors => ps v 4
  | _ => false

/-- FAULT kept or set by a proving failure. -/
def withProving (p : Pers) (v : TileVec) : TileVec := { v with fault := v.fault || provingFault p v }

/-- A running timer decrements; TMR = 0 means that none runs (R140). -/
def tmrDown (n : BitVec 16) : BitVec 16 := if n = 0 then 0 else n - 1

/-! ### TRACK and the points section (R146, R150) -/

/-- TRACK in P1 (R146). -/
def trackP1 (x : TileCtx) (i : TileIn) (v : TileVec) : TileVec :=
  let raw := rawClear .track i
  let prev := ps v 1
  let platform := paramBit x.cfg 32
  let v :=
    if ¬ raw then
      let v := psSet v 0 false
      if platform then
        if prev ∨ (¬ ps v 3 ∧ v.tmr = 0) then psSet { v with tmr := param x.cfg 16 16 } 3 false
        else if v.tmr ≠ 0 then
          let v := { v with tmr := tmrDown v.tmr }
          if v.tmr = 0 then psSet v 3 true else v
        else v
      else { v with tmr := 0 }
    else if ¬ ps v 0 then
      let v := psSet v 3 false
      if ¬ prev then { v with tmr := param x.cfg 0 16 }
      else
        let v := { v with tmr := tmrDown v.tmr }
        if v.tmr = 0 then psSet v 0 true else v
    else v
  let stopped := bit i.bits 2 || !paramBit x.cfg 33
  psSet (psSet v 1 raw) 2 (platform && !raw && ps v 3 && stopped)

/-- The points section in P1 (R150): MOVING as it stood before. -/
def pointSection (x : TileCtx) (i : TileIn) (v : TileVec) : TileVec :=
  let raw := rawClear .point i
  let moving := ps v 4
  let v :=
    if ¬ raw then
      let v := psSet v 6 false
      if moving then v else { v with tmr := 0 }
    else if ¬ ps v 6 ∧ ¬ moving then
      if v.tmr = 0 then { v with tmr := param x.cfg 16 16 }
      else
        let v := { v with tmr := tmrDown v.tmr }
        if v.tmr = 0 then psSet v 6 true else v
    else v
  psSet v 7 raw

/-- The end of a movement (R154). -/
def pointMovement (v : TileVec) : TileVec :=
  if ps v 4 then
    if pointDet v = pointCall v then { psField (psSet v 4 false) 2 0#2 with tmr := 0 }
    else
      let v := { v with tmr := tmrDown v.tmr }
      if v.tmr = 0 then psSet (psField (psSet v 4 false) 2 0#2) 5 true else v
  else v

/-- The partner's report on port D equals the own DET (R149). -/
def partnerDet (w : WaveReg) (own : BitVec 2) : BitVec 2 :=
  match w.ps.d with
  | some (arg, pers) => if pers = 2 ∧ field arg 0 2 = own then own else 0
  | none => 0

/-- SEEN_OCC in P1 (R207, R478). -/
def markSeen (x : TileCtx) (v : TileVec) : TileVec :=
  let p := cfgPers x.cfg
  if (p = .track ∨ p = .point) ∧ v.hold = 2 ∧ ¬ secPassed x v then setSeen p v true else v

/-! ### DOORS (R162 to R164) -/

/-- A SIGNAL on a port B to D reports PROCEED. -/
def proceedSeen (w : WaveReg) (l : List Port) : Bool :=
  l.any fun p => match w.ps.get p with | some (arg, pers) => decide (pers = 3) && bit arg 0 | none => false

/-- PROVEN of R162, which stops the close supervision and clears CLOSE_FAIL (R164). -/
def doorsProven (i : TileIn) (v : TileVec) : TileVec :=
  let ok := decide (field i.bits 0 2 = 0b01#2) && !bit i.bits 3 && !bit i.bits 2 && !ps v 1
  let v := psSet v 0 ok
  if ok then psSet { v with tmr := 0 } 4 false else v

/-- DOORS in wave step 1 of P1: inputs and close supervision. -/
def doorsStart (i : TileIn) (v : TileVec) : TileVec :=
  let v := doorsProven i (psSet v 2 (bit i.bits 2))
  if v.tmr ≠ 0 then
    let v := { v with tmr := tmrDown v.tmr }
    if v.tmr = 0 then psSet v 4 true else v
  else v

/-- DOORS in the later steps of P1: RELEASE falls (R164), and in the step that brings the platform TRACK's STATE it may set
(R163). -/
def doorsStep (x : TileCtx) (i : TileIn) (step : Nat) (w : WaveReg) (v : TileVec) : TileVec :=
  let berth := match w.ps.a with | some (arg, pers) => decide (pers = 1) && bit arg 2 | none => false
  let held := match w.ps.a with | some (arg, _) => bit arg 1 | none => true
  let proceed := proceedSeen w [.b, .c, .d]
  let close := x.snap.close.contains x.elem
  let stop := v.restrict || proceed || close
  let edge := berth && !ps v 3
  let ask := (paramBit x.cfg 18 && edge) || x.snap.release.contains x.elem
  let rule := decide (param x.cfg 16 2 = 1) || !held
  let v' := psSet v 3 berth
  let v' :=
    if ps v 1 then
      if ¬ berth ∨ stop then { psSet v' 1 false with tmr := param x.cfg 0 16 } else v'
    else if step = 2 ∧ berth ∧ rule ∧ ¬ stop ∧ ask then psSet v' 1 true
    else v'
  doorsProven i v'

/-! ### BUFFER, BOUNDARY, PLUNGER, AUXLOGIC -/

/-- BUFFER in P1 (R165). -/
def bufferP1 (x : TileCtx) (i : TileIn) (v : TileVec) : TileVec := psSet v 0 (!paramBit x.cfg 0 || bit i.bits 0)

/-- BOUNDARY in wave step 1 of P1 (R167, R168). -/
def boundaryStart (i : TileIn) (v : TileVec) : TileVec :=
  let v := psField v 0 (field i.bits 0 4)
  let v := psSet v 5 (decide (v.hold ≠ 0))
  if ps v 1 then v else psSet v 4 false

/-- Acceptance of R168, once the border TRACK has reported. -/
def boundaryStep (w : WaveReg) (v : TileVec) : TileVec :=
  match w.ps.a with
  | some (arg, _) =>
    if ps v 1 ∧ ¬ ps v 5 ∧ ¬ v.restrict ∧ bit arg 0 ∧ ¬ bit arg 1 then psSet v 4 true else v
  | none => v

/-- PLUNGER in wave step 1 of P1 (R171, R172). -/
def plungerStart (x : TileCtx) (i : TileIn) (v : TileVec) : TileVec :=
  let operated := decide (field i.bits 0 2 = 0b10#2)
  let was := ps v 1
  let v := psSet v 1 operated
  if param x.cfg 0 2 = 2 then
    if operated ∧ ¬ was then psSet (psSet v 0 false) 3 false else v
  else
    let latched :=
      if paramBit x.cfg 2 then operated || (ps v 2 && !x.snap.reset.contains x.elem) else false
    psSet (psSet v 2 latched) 0 (operated || latched)

/-- An operator plunger in the later steps of P1 (R172). -/
def plungerStep (x : TileCtx) (w : WaveReg) (v : TileVec) : TileVec :=
  if param x.cfg 0 2 = 2 then
    let proceed := proceedSeen w Port.all
    let v := if proceed then psSet v 3 true else v
    if ps v 3 ∧ ¬ proceed then psSet v 0 true else v
  else v

/-- POS and NEG of term `i` (R173). -/
def auxTerm (c : TileCfg) (i : Nat) : BitVec 12 × BitVec 12 := (param c (24 * i) 12, param c (24 * i + 12) 12)

/-- The used terms (R173). -/
def auxTerms (c : TileCfg) : List (BitVec 12 × BitVec 12) :=
  ((List.range 6).map (auxTerm c)).filter fun t => decide (t.1 ≠ 0 ∨ t.2 ≠ 0)

/-- Variable x0 to x11; none for a port with no STATE. DEDUCED: such a variable satisfies no term (log 14). -/
def auxVar (x : TileCtx) (i : TileIn) (w : WaveReg) (n : Nat) : Option Bool :=
  if n < 4 then
    match w.ps.get (Port.ofCode (BitVec.ofNat 2 n)) with
    | some (arg, _) => some (bit arg (param x.cfg (144 + 2 * n) 2).toNat)
    | none => none
  else if bindSrc (cfgIn x.cfg) ≠ 0 ∧ n - 4 < bindBits (cfgIn x.cfg) then some (bit i.bits (n - 4))
  else none

/-- AUXLOGIC in every wave step of P1 (R174). -/
def auxStep (x : TileCtx) (i : TileIn) (w : WaveReg) (v : TileVec) : TileVec :=
  let terms := auxTerms x.cfg
  let used := fun (n : Nat) => terms.any fun t => bit t.1 n || bit t.2 n
  let permit := terms.any fun t =>
    (List.range 12).all fun n =>
      (!bit t.1 n || decide (auxVar x i w n = some true)) && (!bit t.2 n || decide (auxVar x i w n = some false))
  let lost := (List.range 8).any fun n => used (n + 4) && (bit i.replaced n || bit i.blocked n)
  let barred := Port.all.any fun p => used p.num && w.barIn.get p
  let v := psSet v 1 permit
  if ¬ permit ∨ v.restrict ∨ lost ∨ barred then psSet v 0 true
  else if ¬ paramBit x.cfg 168 ∨ ps v 2 then psSet v 0 false
  else v

/-- The permission delay in wave step 1 of P2 (R175). -/
def auxDelay (x : TileCtx) (v : TileVec) : TileVec :=
  if cfgPers x.cfg = .auxlogic ∧ paramBit x.cfg 168 then
    if ¬ ps v 1 then psSet { v with tmr := 0 } 2 false
    else if ps v 2 then v
    else if v.tmr = 0 then { v with tmr := param x.cfg 152 16 }
    else
      let v := { v with tmr := tmrDown v.tmr }
      if v.tmr = 0 then psSet v 2 true else v
  else v

/-! ### P1 as a whole -/

/-- RESTRICT, FAULT and FORCED at the start of P1 (R131, R484). The vector of an EMPTY tile holds 0 except PERS (R119). -/
def startFlags (x : TileCtx) (i : TileIn) (v : TileVec) : TileVec :=
  if cfgPers x.cfg = .empty then v
  else { v with
    restrict := x.mute || decide (i.replaced ≠ 0) || decide (entriesOf x.force x.elem 0x05 ≠ [])
    fault := i.invalid || decide (cfgPers x.cfg = .reserved)
    forced := x.force.any fun e => decide (e.target = x.elem) }

/-- The step-1 section of P1 that runs a TRACK's or POINT's timer; `timed` says that it has run in this take. -/
def sectionP1 (x : TileCtx) (i : TileIn) (v : TileVec) : TileVec :=
  match cfgPers x.cfg with
  | .track => trackP1 x i v
  | .point =>
    let v := pointSection x i v
    if paramBit x.cfg 33 then v
    else pointMovement (psField v 0 (ownDet x i))
  | .doors => doorsStart i v
  | _ => v

/-- Wave step 1 of P1 (R135, R140). LAMP_FAIL of a SIGNAL whose HOLD is 0b00 clears (R159; DEDUCED, log 96). -/
def p1Start (x : TileCtx) (t : TileSt) : TileSt :=
  let i := tileInputs x
  let v := startFlags x i t.vec
  let v := if t.wr.timed then v else sectionP1 x i v
  let v :=
    match cfgPers x.cfg with
    | .signal =>
      let v := if v.hold = 0 then psSet v 10 false else v
      { psSet v 11 (bit i.bits 4) with tmr := tmrDown v.tmr }
    | .point => if paramBit x.cfg 33 then psField v 0 0#2 else v
    | .buffer => bufferP1 x i v
    | .boundary => boundaryStart i v
    | .plunger => plungerStart x i v
    | .auxlogic => auxStep x i t.wr v
    | _ => v
  { t with vec := withProving (cfgPers x.cfg) (markSeen x v),
           wr := { t.wr with timed := decide (cfgPers x.cfg ≠ .point) || !paramBit x.cfg 33 } }

/-- A later wave step of P1, after its tokens have been taken (R135). -/
def p1Step (x : TileCtx) (step : Nat) (t : TileSt) : TileSt :=
  let i := tileInputs x
  let v := t.vec
  let v :=
    match cfgPers x.cfg with
    | .point =>
      if paramBit x.cfg 33 then
        let v := psField v 0 (partnerDet t.wr (ownDet x i))
        if t.wr.timed then v else pointMovement v
      else v
    | .doors => doorsStep x i step t.wr v
    | .boundary => boundaryStep t.wr v
    | .plunger => plungerStep x t.wr v
    | .auxlogic => auxStep x i t.wr v
    | _ => v
  { t with vec := withProving (cfgPers x.cfg) v, wr := { t.wr with timed := true } }

/-! ### Release of a hold -/

/-- HOLD := 0b00, ROUTE := 0, SEEN_OCC := 0, and for a SIGNAL APPROACH := 0, TMR := 0 (R209); LAMP_FAIL clears (R159) and OUT
follows HOLD (R168). -/
def releaseTile (p : Pers) (v : TileVec) : TileVec :=
  let v := setSeen p { v with hold := 0, route := 0 } false
  match p with
  | .signal => psSet (psSet { v with tmr := 0 } 12 false) 10 false
  | .boundary => psSet v 5 false
  | _ => v

/-- A hold taken; OUT of a BOUNDARY follows it (R168). -/
def holdTile (p : Pers) (v : TileVec) (r : RouteId) (h : BitVec 2) : TileVec :=
  let v := { v with hold := h, route := r }
  if p = .boundary then psSet v 5 true else v

/-! ### P5: the aspect (R158) -/

/-- Every DOORS on port C or D has PROVEN = 1 and RELEASE = 0. -/
def doorsOk (w : WaveReg) : Bool :=
  [Port.c, Port.d].all fun p =>
    match w.ps.get p with
    | some (arg, pers) => decide (pers ≠ 4) || (bit arg 0 && !bit arg 1)
    | none => true

/-- STOP_ASP and GO_ASP of a class (R155). -/
def aspectOf (c : TileCfg) (cls : BitVec 4) (go : Bool) : BitVec 3 :=
  param c (16 + 6 * cls.toNat + (if go then 3 else 0)) 3

/-- R158. -/
def aspectEval (x : TileCtx) (routeOk exitGo : Bool) (cls : BitVec 4) (doorsReq : Bool) (t : TileSt) : TileSt :=
  let i := tileInputs x
  let v := t.vec
  let aspect := sigAspect v
  let shown := field i.bits 0 3
  let grace := field v.pstate 6 4
  let lampOk := bit i.bits 3 && (decide (shown = aspect) || (decide (grace ≠ 0) && decide (shown = field v.pstate 3 3)))
  let fail := ps v 10 || (decide (aspect ≠ 0) && !lampOk)
  let grace := if grace ≠ 0 then grace - 1 else grace
  let ok := routeOk && (!doorsReq || doorsOk t.wr) && !v.restrict && !fail && !holdCond t.wr
  let new := if ok then aspectOf x.cfg cls exitGo else 0
  let v := psField (psSet v 10 fail) 6 (if new ≠ aspect then param x.cfg 4 4 else grace)
  let v := if new ≠ aspect then psField v 3 aspect else v
  { t with vec := withProving .signal (psField v 0 new), wr := { t.wr with aspect := true } }

end Sys2Proof.Machine
end

