-- ==== Sys2Proof/Machine/Waves.lean ====
section
/-! DEFINITION. The route waves of P2 to P5 at one tile (04): sending (R193, R655), reject causes (R189), onward ports (R194),
point calls (R151, R152, R654), release (R206 to R217), requests (R195, R196), confirm and lock (R197 to R201) and the
continuous check (R203 to R205). -/

namespace Sys2Proof.Machine

open Sys2Proof

/-! ### Sending and holding -/

/-- A token takes its place by ROUTE in a port queue (R193). -/
def enqueue : List Token → Token → List Token
  | [], k => [k]
  | q :: l, k => if k.route.toNat < q.route.toNat then k :: q :: l else q :: enqueue l k

/-- A token joins the queue of a linked port (R655). -/
def sendAny (x : TileCtx) (t : TileSt) (p : Port) (k : Token) : TileSt :=
  if cfgLinked x.cfg p then
    let q := enqueue (t.queue.get p) k
    { t with queue := t.queue.set p q, evs := if 4 < q.length then t.evs ++ [.overflow] else t.evs }
  else t

/-- As `sendAny`, but a tile of a barred region and a tile of R118 send NONE in place of it (R118, R132). -/
def send (x : TileCtx) (t : TileSt) (p : Port) (k : Token) : TileSt := if x.mute then t else sendAny x t p k

/-- One token on each of several ports. -/
def sendAll (x : TileCtx) (t : TileSt) (l : List Port) (k : Token) : TileSt := l.foldl (fun t p => send x t p k) t

/-- A fact for the lane. -/
def TileSt.ev (t : TileSt) (e : TileEv) : TileSt := { t with evs := t.evs ++ [e] }

/-- The wave register changed. -/
def TileSt.onWr (t : TileSt) (f : WaveReg → WaveReg) : TileSt := { t with wr := f t.wr }

/-- The tile holds route `r` (04, terms). -/
def holds (t : TileSt) (r : RouteId) : Bool := decide (t.vec.hold ≠ 0) && decide (t.vec.route = r)

/-- The tile is an entry SIGNAL: it holds one of its own routes. -/
def isEntry (x : TileCtx) (t : TileSt) : Bool := decide (t.vec.hold ≠ 0) && isOwn x.cfg t.vec.route

/-- Port `p` leads to an end tile (R194). -/
def isEnd (x : TileCtx) (p : Port) : Bool :=
  decide (p = .a) && decide (cfgPers x.cfg = .signal ∨ cfgPers x.cfg = .buffer ∨ cfgPers x.cfg = .boundary)

/-- The exit mark of a route stands on the tile (R181). -/
def exitOf (x : TileCtx) (r : RouteId) : Option ExitMark := x.exit.filter fun m => decide (m.route = r)

/-- The heel of a position; the position of a heel (R197: B = normal, C = reverse). -/
def heelOf (pos : BitVec 2) : Option Port := if pos = 0b01 then some .b else if pos = 0b10 then some .c else none
/-- The position that a heel stands for. -/
def posOf (p : Port) : BitVec 2 := if p = .c then 0b10 else 0b01
/-- The other heel. -/
def otherHeel (p : Port) : Port := if p = .b then .c else .b
/-- The other end of a TRACK or SIGNAL. -/
def otherEnd (p : Port) : Port := if p = .a then .b else .a

/-- Onward ports in NEW, HELD and FREE use (R194). -/
def onward (x : TileCtx) (p : Port) : List Port :=
  match cfgPers x.cfg with
  | .track => [otherEnd p]
  | .point => if p = .a then [.b, .c] else [.a]
  | .signal => if p = .b then [.a] else []
  | _ => []

/-- Onward ports of a flank path: a SIGNAL entered at A passes to B, as R200 and R179 say. DEDUCED (log 15). -/
def onwardFlank (x : TileCtx) (p : Port) : List Port :=
  if cfgPers x.cfg = .signal then [otherEnd p] else onward x p

/-- Onward ports in OVERLAP mode and for exit probes (R194): none at a POINT that is not detected for the arrival port. -/
def onwardOvl (x : TileCtx) (v : TileVec) (p : Port) : List Port :=
  match cfgPers x.cfg with
  | .track => [otherEnd p]
  | .point =>
    if p = .a then (heelOf (pointDet v)).toList
    else if heelOf (pointDet v) = some p then [.a] else []
  | .signal => if p = .b then [.a] else []
  | _ => []

/-- A cause as it is sent in a mode (R189). -/
def mapCause (m : ReqMode) (c : BitVec 3) : BitVec 3 :=
  if c = 1 ∨ c = 2 ∨ c = 3 ∨ c = 7 then
    match m with
    | .overlap => 4
    | .flank => 5
    | _ => c
  else c

/-- A refusal sent on a port, also by a tile that otherwise sends NONE (R118, R132). -/
def refuse (x : TileCtx) (t : TileSt) (p : Port) (r : RouteId) (m : ReqMode) (c : BitVec 3) : TileSt :=
  sendAny x t p (tokReject r (mapCause m c))

/-- The lower of two causes (R189). -/
def lowest (a : Option (BitVec 3)) (c : BitVec 3) : BitVec 3 :=
  match a with
  | some b => if b.toNat < c.toNat then b else c
  | none => c

/-- The outcome that a REJECT gives at the entry (R218). -/
def entryRejected (t : TileSt) (r : RouteId) (c : BitVec 3) (held : Bool) : TileSt :=
  if held then t.ev (.outcome r 0x6 c true)
  else if c = 0 then t.ev (.outcome r 0x2 0 false)
  else t.ev (.outcome r 0x5 c false)

/-- The tile answers on IN, or, as the entry, the request ends (R195, R197, R218). -/
def answerReject (x : TileCtx) (t : TileSt) (r : RouteId) (c : BitVec 3) : TileSt :=
  match t.wr.inPort with
  | some p => send x t p (tokReject r (mapCause t.wr.mode c))
  | none => if isOwn x.cfg r then entryRejected t r c (decide (t.wr.mode = .held)) else t

/-- Every port the tile waits on has answered, and none with CONFIRM. -/
def settled (w : WaveReg) : Bool := decide (w.wait.ports = []) && decide (w.conf.ports = [])

/-- A port counts as answered with REJECT of cause `c`; with the last one the tile answers (R195). -/
def branchRejected (x : TileCtx) (t : TileSt) (p : Port) (r : RouteId) (c : BitVec 3) : TileSt :=
  let best := lowest t.wr.best c
  let t := t.onWr fun w => { w with wait := w.wait.set p false, best := some best }
  if settled t.wr then answerReject x t r best else t

/-- A REQUEST forwarded on several ports; an unlinked one is answered at once (R655). -/
def forward (x : TileCtx) (t : TileSt) (l : List Port) (k : Token) (c : BitVec 3) : TileSt :=
  let linked := l.filter (cfgLinked x.cfg)
  let t := t.onWr fun w =>
    { w with wait := linked.foldl (fun a p => a.set p true) w.wait,
             best := if linked.length < l.length then some (lowest w.best c) else w.best }
  if linked = [] then answerReject x t k.route (t.wr.best.getD c) else sendAll x t linked k

/-! ### Calling points -/

/-- R152: an accepted call applied to a POINT. A call to the position that DET reports changes nothing, so that MOVE_FAIL, which R154
clears at the next accepted call, stands there. DESIGN CHOICE (log 118). -/
def applyCall (x : TileCtx) (v : TileVec) (pos : BitVec 2) : TileVec :=
  if ps v 4 then
    if pointCall v = pos then v else { psField v 2 pos with tmr := param x.cfg 0 16 }
  else if pointDet v = pos then v
  else { psSet (psSet (psField v 2 pos) 4 true) 5 false with tmr := param x.cfg 0 16 }

/-- What refuses a call under R151: nothing, the hold (0b001) or another condition (0b010). `r` is the calling route. -/
def callRefused (t : TileSt) (r : Option RouteId) : Option (BitVec 3) :=
  let held := decide (t.vec.hold ≠ 0) && !(decide (t.vec.hold = 1) && decide (some t.vec.route = r))
  if held then some 1
  else if t.vec.restrict ∨ ¬ ps t.vec 6 ∨ holdCond t.wr then some 2
  else none

/-- A call at one POINT (R151, R152, R654): `r` the calling route, none for an individual call. -/
def callPoint (x : TileCtx) (t : TileSt) (r : Option RouteId) (pos : BitVec 2) : TileSt :=
  let indiv := r.isNone
  match callRefused t r with
  | some c => if indiv then t.ev (.called x.elem 0x5 c) else t
  | none =>
    if paramBit x.cfg 33 then
      if cfgLinked x.cfg .d ∧ ¬ x.mute then
        let t := t.onWr fun w => { w with couple := some (r.getD 0, indiv, decide (pos = 0b10)) }
        send x t .d (tokLock (r.getD 0) (0b1100 ||| ofBit 1 indiv ||| ofBit 0 (decide (pos = 0b10))))
      else if indiv then t.ev (.called x.elem 0x5 2) else t
    else
      let t := { t with vec := applyCall x t.vec pos }
      if indiv then t.ev (.called x.elem 0x0 0) else t

/-- The partner's side of R654. -/
def coupleAsked (x : TileCtx) (t : TileSt) (r : RouteId) (arg : BitVec 4) : TileSt :=
  match callRefused t (if bit arg 1 then none else some r) with
  | some c => send x t .d (tokReject r c)
  | none => send x { t with vec := applyCall x t.vec (if bit arg 0 then 0b10 else 0b01) } .d (tokConfirm r 0b0111)

/-- The answer to a COUPLE call at the calling end (R654). -/
def coupleAnswer (x : TileCtx) (t : TileSt) (ok : Bool) (c : BitVec 3) : TileSt :=
  match t.wr.couple with
  | some (_, indiv, rev) =>
    let t := t.onWr fun w => { w with couple := none }
    let t := if ok then { t with vec := applyCall x t.vec (if rev then 0b10 else 0b01) } else t
    if indiv then t.ev (.called x.elem (if ok then 0x0 else 0x5) (if ok then 0 else c)) else t
  | none => t

/-! ### P2: release -/

/-- FREE on several ports. -/
def sendFree (x : TileCtx) (t : TileSt) (l : List Port) (r : RouteId) : TileSt := sendAll x t l (tokRelease r 0b1011)

/-- The tile gives up its hold. -/
def TileSt.release (x : TileCtx) (t : TileSt) : TileSt := { t with vec := releaseTile (cfgPers x.cfg) t.vec }

/-- What an entry SIGNAL does in wave step 1 of P2 (R213, R214): the ports on which FREE has gone for a route. -/
def signalP2 (x : TileCtx) (t : TileSt) : TileSt × List (Port × RouteId) :=
  let r := t.vec.route
  let cancel : Bool := match x.latch with | some l => l.cancel && decide (l.route = r) | none => false
  let appr := match x.latch with | some l => l.appr | none => 0
  let rear : Bool := match t.wr.ps.a with
    | some (arg, pers) => decide (pers = 1) && bit arg 0 && !bit arg 1 && !bit arg 3
    | none => false
  if ¬ isEntry x t then (t, [])
  else if sigApproach t.vec ∧ t.vec.tmr = 0 then
    let t := if cancel then t.ev (.outcome r 0xB 0 true) else t
    (sendFree x ((t.release x).ev (.released r)) [.b] r, [(.b, r)])
  else if ¬ cancel then (t, [])
  else if t.vec.hold = 1 then ((t.release x).ev (.outcome r 0x7 0 true), [])
  else if sigApproach t.vec then (t.ev (.outcome r 0xB 0 true), [])
  else if rear then (sendFree x ((t.release x).ev (.outcome r 0x7 0 true)) [.b] r, [(.b, r)])
  else
    let t := { t with vec := psSet { t.vec with tmr := appr } 12 true }
    ((t.ev (.outcome r 0xB 0 true)).ev (.approach r), [])

/-- The exit of a route whose emergency release has expired (R215). -/
def exitFree (x : TileCtx) (t : TileSt) : TileSt × List (Port × RouteId) :=
  match x.exit with
  | some m =>
    if m.free ∧ m.live then
      let t := if cfgPers x.cfg = .boundary ∧ holds t m.route then t.release x else t
      let l := if m.ovlLen ≠ 0 then [Port.a, Port.b] else [Port.a]
      (sendFree x t l m.route, l.map fun p => (p, m.route))
    else (t, [])
  | none => (t, [])

/-- A BOUNDARY that must start a release (R168, R217). -/
def boundaryP2 (x : TileCtx) (t : TileSt) : TileSt × List (Port × RouteId) :=
  if cfgPers x.cfg = .boundary ∧ ps t.vec 5 ∧ ps t.vec 1 ∧ ¬ paramBit x.cfg 0 ∧ t.vec.hold ≠ 0 then
    let r := t.vec.route
    (sendFree x (t.release x) [.a] r, [(.a, r)])
  else (t, [])

/-- c and b of a probe (R206, R478). -/
def probeBits (x : TileCtx) (v : TileVec) : BitVec 4 :=
  match cfgPers x.cfg with
  | .track => ofBit 0 (secPassed x v) ||| ofBit 1 (ps v 2)
  | .point => ofBit 0 (secPassed x v)
  | _ => 1

/-- The exit of a live route probes on B (R206). -/
def exitProbesB (x : TileCtx) (v : TileVec) (m : ExitMark) : Bool :=
  decide (m.ovlLen ≠ 0) && !(decide (v.hold = 2) && isOwn x.cfg v.route)

/-- The probes of wave step 1 of P2 (R206): on each port at most one, the tile's own ROUTE before an exit's; none where FREE
of its route has gone. -/
def probes (x : TileCtx) (t : TileSt) (freed : List (Port × RouteId)) : TileSt :=
  let v := t.vec
  let own : Port → Bool := fun p =>
    decide (v.hold = 2) && (exitOf x v.route).isNone && (!isOwn x.cfg v.route || decide (p = .b))
  let mark : Port → Option RouteId := fun p =>
    match x.exit with
    | some m => if m.live ∧ (p = Port.a ∨ (p = Port.b ∧ exitProbesB x v m)) then some m.route else none
    | none => none
  (routePorts (cfgPers x.cfg)).foldl (fun t p =>
    let tok := if own p then some (tokRelease v.route (probeBits x v))
      else (mark p).map fun r => tokRelease r 0b0101
    match tok with
    | some k => if freed.contains (p, k.route) ∨ freed.any (fun f => decide (f.1 = p)) then t else send x t p k
    | none => t) t

/-- Wave step 1 of P2. A FREE that stands in a port queue already is that of APPROACH_LOCKING_EXPIRY, and takes the place of a probe (R206). -/
def p2Start (x : TileCtx) (t : TileSt) : TileSt :=
  let queued := Port.all.flatMap fun p => (t.queue.get p).map fun k => (p, k.route)
  let t := { t with vec := auxDelay x t.vec }
  let (t, f1) := signalP2 x t
  let (t, f2) := exitFree x t
  let (t, f3) := boundaryP2 x t
  probes x t (queued ++ f1 ++ f2 ++ f3)

/-- FREE (R212). -/
def freeArrives (x : TileCtx) (t : TileSt) (p : Port) (r : RouteId) (n : BitVec 4) : TileSt :=
  if holds t r then
    sendFree x (t.release x) ((routePorts (cfgPers x.cfg)).filter fun q => decide (q ≠ p)) r
  else if 1 < n.toNat then sendAll x t (onward x p) (tokRelease r (0b1000 ||| (n - 1)))
  else t

/-- SIDE FREE (R212). -/
def sideFreeArrives (x : TileCtx) (t : TileSt) (p : Port) (r : RouteId) (n : BitVec 4) : TileSt :=
  let t := if holds t r ∧ t.vec.hold = 3 then t.release x else t
  if 1 < n.toNat then sendAll x t (onwardFlank x p) (tokRelease r (0b1100 ||| (n - 1))) else t

/-- A probe: an exit probe sets TAKE and passes on over the overlap (R208). -/
def probeArrives (x : TileCtx) (t : TileSt) (p : Port) (r : RouteId) (arg : BitVec 4) : TileSt :=
  if bit arg 2 ∧ holds t r ∧ t.vec.hold = 3 then
    sendAll x (t.onWr fun w => { w with take := w.take.set p true }) (onwardOvl x t.vec p) (tokRelease r arg)
  else t

/-- The probe of route `r` that arrived on a port in this step (R209). -/
def probeOn (ins : Four Token) (r : RouteId) (p : Port) : Option (BitVec 4) :=
  let k := ins.get p
  if k.kind = 4 ∧ k.route = r ∧ bit k.arg 3 = false then some k.arg else none

/-- Sectional release and the release of overlaps in wave step 2 of P2 (R209 to R211). -/
def p2Release (x : TileCtx) (ins : Four Token) (t : TileSt) : TileSt :=
  let v := t.vec
  let r := v.route
  let ports := routePorts (cfgPers x.cfg)
  let live := (ports.filter fun p => (probeOn ins r p).isSome).length
  let go :=
    decide (v.hold = 2) &&
    match cfgPers x.cfg with
    | .signal =>
      if isOwn x.cfg r then (match probeOn ins r .b with | some a => !bit a 0 | none => false : Bool) else decide (live ≤ 1)
    | .track => seenOcc .track v && secClear .track v && decide (live ≤ 1)
    | .point => seenOcc .point v && secClear .point v && decide (live ≤ 1)
    | .boundary => (probeOn ins r .a).isNone
    | _ => false
  let t :=
    if go then
      let t := t.release x
      if cfgPers x.cfg = .point then
        sendAll x t ([Port.b, Port.c].filter fun p => (probeOn ins r p).isNone) (tokRelease r 0b1111)
      else t
    else t
  match x.exit with
  | some m =>
    let berthed : Bool := match probeOn ins m.route .a with | some a => decide (m.ovlClass = 1) && bit a 1 | none => true
    if m.live ∧ m.ovlLen ≠ 0 ∧ berthed then
      send x t .b (tokRelease m.route (0b1100 ||| m.ovlLen.zeroExtend 4))
    else t
  | none => t

/-- A RELEASE token in P2. -/
def releaseArrives (x : TileCtx) (t : TileSt) (p : Port) (k : Token) : TileSt :=
  let n := k.arg &&& 0b0011
  if bit k.arg 3 then
    if bit k.arg 2 then sideFreeArrives x t p k.route n else freeArrives x t p k.route n
  else probeArrives x t p k.route k.arg

/-! ### P3: requests -/

/-- Wave step 1 of P3 (R195). An entry in a barred region counts its port B as answered with 0b010. DEDUCED (log 16). -/
def p3Start (x : TileCtx) (t : TileSt) : TileSt :=
  let start := fun (t : TileSt) (r : RouteId) (arg : BitVec 4) =>
    if x.mute then answerReject x t r 2 else forward x t [.b] (tokRequest r arg) 7
  match x.latch with
  | some l =>
    if l.admitted then
      let t := { t with vec := holdTile .signal t.vec l.route 1 }
      start (t.onWr fun w => { w with isNew := true, mode := .new, inPort := none, best := none }) l.route 0
    else if t.vec.hold = 1 ∧ isOwn x.cfg t.vec.route ∧ ¬ l.cancel then
      start (t.onWr fun w => { w with mode := .held, inPort := none, best := none }) t.vec.route 0b0010
    else t
  | none =>
    if t.vec.hold = 1 ∧ isOwn x.cfg t.vec.route then
      start (t.onWr fun w => { w with mode := .held, inPort := none, best := none }) t.vec.route 0b0010
    else t

/-- The mode of a REQUEST (R186). -/
def reqMode (arg : BitVec 4) : ReqMode :=
  if bit arg 2 then .overlap else if bit arg 3 then .flank else if bit arg 1 then .held else .new

/-- The ARG codes that R186 lists for a kind and phase. -/
def argListed (ph : Phase) (k : Token) : Bool :=
  let a := k.arg.toNat
  let nn := decide (5 ≤ a ∧ a ≤ 7)
  let side := decide (a = 4 ∨ a = 5)
  if k.kind = 1 then
    match ph with
    | .p3 => decide (a ≤ 2) || nn
    | .p4 => nn || decide (9 ≤ a ∧ a ≤ 11)
    | _ => false
  else if k.kind = 2 then
    match ph with
    | .p4 => decide (a ≤ 3) || side || decide (a = 7)
    | .p5 => decide (a ≤ 3) || side
    | _ => false
  else if k.kind = 3 then
    match ph with
    | .p4 => decide (a ≤ 1) || side || decide (12 ≤ a)
    | .p5 => decide (8 ≤ a ∧ a ≤ 11)
    | _ => false
  else if k.kind = 4 then decide (ph = .p2) && decide (a ≠ 8 ∧ a ≠ 12)
  else if k.kind = 6 then decide (ph = .p3 ∨ ph = .p4 ∨ ph = .p5) && decide (a ≤ 7)
  else true

/-- A hold taken in P3 of this take is given up (R191): REJECT 0b000 to the port through which its route arrived, unless
`keep` is that port; an entry's request is DEFERRED. -/
def giveUp (x : TileCtx) (t : TileSt) (keep : List Port) : TileSt :=
  let s := t.vec.route
  let t' := { t with vec := releaseTile (cfgPers x.cfg) t.vec }
  let t' := t'.onWr fun w => { w with isNew := false, inPort := none, wait := Four.rep false, conf := Four.rep false,
                                      best := none, ovlEnd := false, rport := none }
  match t.wr.inPort with
  | some p => if keep.contains p then t' else send x t' p (tokReject s 0)
  | none => if isOwn x.cfg s then t'.ev (.outcome s 0x2 0 false) else t'

/-- The hold is NEW, for a route above `r` (R191). -/
def newAbove (t : TileSt) (r : RouteId) : Bool :=
  t.wr.isNew && decide (t.vec.hold = 1) && decide (r.toNat < t.vec.route.toNat)

/-- Available for a REQUEST of `r` in mode `m` on port `p` (R195). -/
def available (t : TileSt) (r : RouteId) (m : ReqMode) (p : Port) : Bool :=
  decide (t.vec.hold = 0) || newAbove t r ||
    (decide (m = .overlap) && decide (t.vec.hold = 1) && decide (t.vec.route = r)) ||
    (decide (m = .new) && decide (t.vec.hold = 3) && t.wr.take.get p)

/-- A REQUEST seizes the tile (R195): HOLD 0b01, NEW, IN and mode of its wave. -/
def seize (x : TileCtx) (t : TileSt) (r : RouteId) (m : ReqMode) (p : Port) : TileSt :=
  { t with vec := holdTile (cfgPers x.cfg) t.vec r 1 }.onWr fun w =>
    { w with isNew := true, passed := false, inPort := some p, mode := m, wait := Four.rep false, conf := Four.rep false,
             best := none, ovlEnd := false, rport := none, sideFrom := none, flankWait := false }

/-- Acceptance at the exit (R196): END, and the overlap request. -/
def exitAccept (x : TileCtx) (t : TileSt) (m : ExitMark) : TileSt :=
  let t := t.onWr fun w => { w with atEnd := true, xRoute := some m.route, xWait := false, xOvl := false }
  if m.ovlLen ≠ 0 ∧ ¬ (cfgPers x.cfg = .signal ∧ t.vec.hold = 2 ∧ isOwn x.cfg t.vec.route) then
    if cfgLinked x.cfg .b then
      send x (t.onWr fun w => { w with xWait := true }) .b (tokRequest m.route (0b0100 ||| m.ovlLen.zeroExtend 4))
    else
      let t := t.onWr fun w => { w with atEnd := false, xRoute := none }
      refuse x t .a m.route .new 4
  else t

/-- The exit check and reach_end (R196, R168). A BOUNDARY that holds the route and meets NB_OUT = 1 with PRIO = 1 refuses its HELD REQUEST
too: the first row of R168 speaks of every REQUEST, the fourth of the tile's own hold. DEDUCED (log 117). -/
def exitCheck (x : TileCtx) (t : TileSt) (p : Port) (m : ExitMark) : TileSt :=
  let r := m.route
  match cfgPers x.cfg with
  | .signal =>
    if t.vec.hold = 0 ∨ isOwn x.cfg t.vec.route then exitAccept x t m
    else if newAbove t r then exitAccept x (giveUp x t (if m.ovlLen = 0 then [] else [.b])) m
    else refuse x t p r .new 1
  | .buffer => if ps t.vec 0 then exitAccept x t m else refuse x t p r .new 2
  | _ =>
    if ps t.vec 1 ∨ ps t.vec 4 ∨ (t.vec.hold ≠ 0 ∧ t.vec.route ≠ r) then refuse x t p r .new 1
    else
      let keep := holds t r
      let t' := if keep then t else seize x t r .new p
      exitAccept x (t'.onWr fun w => { w with inPort := some p }) m

/-- A REQUEST that has won, or a HELD request of the holding route (R195). -/
def requestWins (x : TileCtx) (t : TileSt) (p : Port) (r : RouteId) (arg : BitVec 4) : TileSt :=
  let m := reqMode arg
  let nn := arg &&& 0b0011
  let mark := exitOf x r
  if t.vec.restrict ∨ (cfgPers x.cfg = .track ∧ holdCond t.wr) then refuse x t p r m 2
  else if m = .held then
    match isEnd x p, mark with
    | true, some k => exitCheck x t p k
    | _, _ =>
      if holds t r ∧ t.vec.hold = 1 then
        forward x (t.onWr fun w => { w with inPort := some p, mode := .held, best := none }) (onward x p) (tokRequest r arg) 7
      else refuse x t p r m 6
  else if m = .overlap ∧ isEnd x p then
    if cfgPers x.cfg = .boundary then refuse x t p r m 4
    else t.onWr fun w => { w with ovlFor := some r }
  else if isEnd x p then
    match mark with
    | some k => if k.viaEn ∧ ¬ bit arg 0 then refuse x t p r m 7 else exitCheck x t p k
    | none => refuse x t p r m 7
  else if holds t r ∧ t.wr.isNew then refuse x t p r m 7
  else if available t r m p then
    let on := if m = .overlap then onwardOvl x t.vec p else onward x p
    let last := decide (m = .overlap) && decide (nn = 1)
    let t' := if newAbove t r then giveUp x t (if last then [] else on) else t
    let t' := seize x t' r m p
    if last then t'.onWr fun w => { w with ovlEnd := true }
    else if m = .overlap then
      if on = [] then refuse x t' p r m 4
      else forward x t' on (tokRequest r (0b0100 ||| (nn - 1))) 4
    else
      let v := bit arg 0 || decide (x.via = some r)
      forward x t' on (tokRequest r (ofBit 0 v)) 7
  else refuse x t p r m (if t.wr.isNew then 0 else 1)

/-! ### P4: confirm and lock -/

/-- Wave step 1 of P4 (R197). -/
def p4Start (x : TileCtx) (t : TileSt) : TileSt :=
  let t :=
    match t.wr.ovlEnd, t.wr.inPort with
    | true, some p => send x t p (tokConfirm t.vec.route 0b0101)
    | _, _ => t
  let t := match t.wr.ovlFor with | some r => send x t .a (tokConfirm r 0b0101) | none => t
  match t.wr.atEnd, t.wr.xRoute with
  | true, some r =>
    if t.wr.xWait then t
    else
      let f : Bool := match exitOf x r with | some m => m.flank | none => false
      send x t .a (tokConfirm r (0b0001 ||| ofBit 1 f))
  | _, _ => t

/-- The entry locks or calls (R197, R218). -/
def entryConfirmed (x : TileCtx) (t : TileSt) (r : RouteId) (d : Bool) : TileSt :=
  let held := decide (t.wr.mode = .held)
  let t := t.onWr fun w => { w with passed := true }
  if d then send x ({ t with vec := { t.vec with hold := 2 } }.ev (.outcome r 0x0 0 held)) .b (tokLock r 1)
  else send x (t.ev (.outcome r 0x1 0 held)) .b (tokLock r 0)

/-- The MAIN answer goes on toward the entry. -/
def confirmUp (x : TileCtx) (t : TileSt) (r : RouteId) (d f : Bool) : TileSt :=
  match t.wr.inPort with
  | some p => send x t p (tokConfirm r (ofBit 0 d ||| ofBit 1 f))
  | none => if isOwn x.cfg r then entryConfirmed x t r d else t

/-- The heel of the route at a POINT: the port of its CONFIRM, else the port of its arrival (R197). -/
def routeHeel (w : WaveReg) : Port :=
  match w.rport, w.inPort with
  | some .b, _ => .b
  | some .c, _ => .c
  | _, some p => p
  | _, none => .b

/-- CONFIRM MAIN at a tile that holds the route (R197). -/
def confirmArrives (x : TileCtx) (t : TileSt) (q : Port) (r : RouteId) (d f : Bool) : TileSt :=
  let t := t.onWr fun w =>
    { w with rport := some q, flank := f, wait := w.wait.set q false, conf := w.conf.set q true }
  if cfgPers x.cfg = .point then
    let heel := routeHeel t.wr
    let req := posOf heel
    let det := pointDet t.vec
    if ps t.vec 5 ∧ det ≠ req then answerReject x t r 3
    else
      let d := d && decide (det = req)
      let fh := otherHeel heel
      if f then
        if cfgLinked x.cfg fh then
          send x (t.onWr fun w => { w with ok := d, flankWait := true }) fh (tokRequest r 0b1011)
        else answerReject x t r 5
      else confirmUp x t r d f
  else confirmUp x t r d f

/-- CONFIRM SIDE: at the exit from the overlap, at a point from its flank search, else on the way back (R197, R200). -/
def sideArrives (x : TileCtx) (t : TileSt) (q : Port) (r : RouteId) (k : Bool) : TileSt :=
  if t.wr.xWait ∧ t.wr.xRoute = some r ∧ q = .b then
    let f : Bool := match exitOf x r with | some m => m.flank | none => false
    if k then send x (t.onWr fun w => { w with xWait := false, xOvl := true }) .a (tokConfirm r (0b0001 ||| ofBit 1 f))
    else send x (t.onWr fun w => { w with xWait := false, atEnd := false }) .a (tokReject r 4)
  else if holds t r ∧ t.wr.flankWait ∧ q = otherHeel (routeHeel t.wr) then
    confirmUp x (t.onWr fun w => { w with flankWait := false }) r (t.wr.ok && k) true
  else if holds t r then
    match t.wr.inPort with
    | some p =>
      send x (t.onWr fun w => { w with sideFrom := some q, wait := w.wait.set q false, conf := w.conf.set q true }) p
        (tokConfirm r (0b0100 ||| ofBit 0 k))
    | none => t
  else t

/-- LOCK MAIN (R197). -/
def lockArrives (x : TileCtx) (t : TileSt) (p : Port) (r : RouteId) (lock : Bool) : TileSt :=
  let toOverlap := fun (t : TileSt) => if t.wr.xOvl then send x t .b (tokLock r (0b0100 ||| ofBit 0 lock)) else t
  if holds t r then
    let t := t.onWr fun w => { w with passed := true }
    let t := if lock then { t with vec := { t.vec with hold := 2 } } else t
    let t :=
      if cfgPers x.cfg = .point then
        let t := if lock then t else callPoint x t (some r) (posOf (routeHeel t.wr))
        if t.wr.flank then send x t (otherHeel (routeHeel t.wr)) (tokLock r (0b0100 ||| ofBit 0 lock)) else t
      else t
    if t.wr.xRoute = some r ∧ isEnd x p then toOverlap t
    else match t.wr.rport with
      | some q => send x t q (tokLock r (ofBit 0 lock))
      | none => t
  else if t.wr.xRoute = some r ∧ isEnd x p then toOverlap t
  else t

/-- LOCK SIDE (R197). -/
def sideLockArrives (x : TileCtx) (t : TileSt) (r : RouteId) (lock : Bool) : TileSt :=
  if holds t r then
    let t := t.onWr fun w => { w with passed := true }
    let t := if lock then { t with vec := { t.vec with hold := 3 } } else t
    let t :=
      match cfgPers x.cfg, t.wr.mode, t.wr.inPort with
      | .point, .flank, some p => if ¬ lock ∧ p ≠ Port.a then callPoint x t (some r) (posOf (otherHeel p)) else t
      | _, _, _ => t
    match t.wr.sideFrom with
    | some q => send x t q (tokLock r (0b0100 ||| ofBit 0 lock))
    | none => t
  else t

/-- A FLANK search reaches the tile (R200): the first row that fits. On a tile that the route holds already, the search becomes the wave
that the tile answers: IN, mode and the waits are the search's from then on, and NEW and HOLD stand. DESIGN CHOICE (log 119). -/
def flankArrives (x : TileCtx) (t : TileSt) (p : Port) (r : RouteId) (nn : BitVec 4) : TileSt :=
  let per := cfgPers x.cfg
  let free := decide (t.vec.hold = 0) || decide (t.vec.route = r)
  let take := fun (t : TileSt) =>
    let kept := holds t r
    let t := if kept then t else { t with vec := holdTile per t.vec r 1 }
    t.onWr fun w => { w with isNew := if kept then w.isNew else true, inPort := some p, mode := .flank,
                             wait := Four.rep false, conf := Four.rep false, best := none, sideFrom := none }
  if t.vec.restrict ∨ (per = .track ∧ holdCond t.wr) then refuse x t p r .flank 5
  else if per = .buffer then send x t p (tokConfirm r 0b0101)
  else if ¬ free then refuse x t p r .flank 5
  else if per = .track ∨ (per = .signal ∧ p = .a) then
    if 1 < nn.toNat then forward x (take t) (onwardFlank x p) (tokRequest r (0b1000 ||| (nn - 1))) 5
    else refuse x (take t) p r .flank 5
  else if per = .point ∧ p ≠ .a then
    send x (take t) p (tokConfirm r (0b0100 ||| ofBit 0 (decide (pointDet t.vec = posOf (otherHeel p)))))
  else if per = .signal then send x (take t) p (tokConfirm r 0b0101)
  else refuse x t p r .flank 5

/-- A REJECT in P3 or P4. -/
def rejectArrives (x : TileCtx) (t : TileSt) (p : Port) (r : RouteId) (c : BitVec 3) : TileSt :=
  match t.wr.couple, decide (p = .d) with
  | some k, true => if k.1 = r then coupleAnswer x t false c else t
  | _, _ =>
    if t.wr.xWait ∧ t.wr.xRoute = some r ∧ p = .b then
      send x (t.onWr fun w => { w with xWait := false, atEnd := false }) .a (tokReject r (if c = 0 then 0 else 4))
    else if holds t r ∧ t.wr.flankWait ∧ p = otherHeel (routeHeel t.wr) then
      answerReject x (t.onWr fun w => { w with flankWait := false }) r (if c = 0 then 0 else 5)
    else if holds t r ∧ t.wr.wait.get p then branchRejected x t p r c
    else t

/-! ### P5: the continuous check -/

/-- HOLD expected by a check mode (R203): CHECK 0, OVERLAP 1, FLANK 2. -/
def expectedHold (m : BitVec 2) : BitVec 2 := if m = 0 then 2 else 3

/-- The mode of a P5 LOCK (R186). -/
def checkMode (arg : BitVec 4) : BitVec 2 := if arg = 0b1010 then 1 else if arg = 0b1011 then 2 else 0

/-- Wave step 1 of P5 (R202, R203, R214, R215). -/
def p5Start (x : TileCtx) (t : TileSt) : TileSt :=
  let asp := if t.wr.aspect then t.wr.aspStart else sigAspect t.vec
  let t := t.onWr fun w =>
    { w with aspStart := asp, wait := Four.rep false, conf := Four.rep false, rej := Four.rep false, xWait := false,
             chkPort := none, chkSide := none, ok := true, go := false }
  let t := if t.vec.hold = 1 ∧ ¬ t.wr.passed then t.release x else t
  if cfgPers x.cfg ≠ .signal ∨ t.wr.aspect then t
  else
    let erl : Bool := match x.latch with | some l => l.erl | none => false
    let f : Bool := match x.latch with | some l => l.flank | none => false
    if isEntry x t ∧ t.vec.hold = 2 ∧ ¬ sigApproach t.vec ∧ ¬ erl ∧ cfgLinked x.cfg .b ∧ ¬ x.mute then
      send x (t.onWr fun w => { w with wait := w.wait.set .b true }) .b (tokLock t.vec.route (0b1000 ||| ofBit 0 f))
    else aspectEval x false false 0 false t

/-- The entry's answer has come (R203). -/
def entryAnswer (x : TileCtx) (t : TileSt) (ok go : Bool) : TileSt :=
  let cls : BitVec 4 := match x.latch with | some l => l.cls | none => 0
  let req : Bool := match x.latch with | some l => l.doorDep | none => false
  aspectEval x ok go cls req (t.onWr fun w => { w with wait := w.wait.set .b false })

/-- What the exit answers (R205), the overlap check being `ovl`. -/
def exitResult (x : TileCtx) (t : TileSt) (ovl : Bool) (r : RouteId) : TileSt :=
  let v := t.vec
  let (ok, go) :=
    match cfgPers x.cfg with
    | .signal => (ps v 11 && !v.restrict && ovl, decide (t.wr.aspStart ≠ 0))
    | .buffer => (ps v 0 && !v.restrict, false)
    | _ => (decide (v.hold = 2) && decide (v.route = r) && ps v 2 && ps v 0 && !v.restrict, ps v 3)
  send x t .a (tokConfirm r (ofBit 0 ok ||| ofBit 1 go))

/-- The conditions of a tile that a check passes (R204); `heel` the heel that answered CONFIRM, or the arrival heel. -/
def ownOk (x : TileCtx) (t : TileSt) (mode : BitVec 2) (heel : Option Port) (side : Bool) : Bool :=
  let v := t.vec
  match cfgPers x.cfg with
  | .track => !v.restrict && (decide (mode = 2) || ps v 0)
  | .point =>
    let inPos := match heel with
      | some h => decide (pointDet v = posOf h)
      | none => decide (pointDet v ≠ 0)
    ps v 6 && !v.restrict && !ps v 4 && inPos && side
  | .signal => !v.restrict
  | _ => false

/-- The answer that a tile sends once every port has answered (R203). -/
def checkAnswer (x : TileCtx) (t : TileSt) (r : RouteId) : TileSt :=
  match t.wr.chkPort with
  | some p =>
    let mode := t.wr.chkMode
    let confs := t.wr.conf.ports
    let heel := if p = .b ∨ p = .c then some p else confs.head?
    let own := ownOk x t mode heel (!t.wr.chkFlank || t.wr.sideOk)
    let ok := if confs ≠ [] then own && t.wr.ok else if mode = 1 then own else false
    let go := decide (confs ≠ []) && t.wr.go
    let t := t.onWr fun w => { w with chkPort := none }
    send x t p (tokConfirm r (if mode = 0 then ofBit 0 ok ||| ofBit 1 go else 0b0100 ||| ofBit 0 ok))
  | none => t

/-- All answers are in: the flank check of a point entered at its toe starts with the heel that answered REJECT 0b110;
otherwise the tile answers (R203). -/
def checkProgress (x : TileCtx) (t : TileSt) (r : RouteId) : TileSt :=
  let w := t.wr
  if w.chkPort.isNone then t
  else if w.chkFlank ∧ w.chkSide.isNone ∧ w.rej.ports ≠ [] then
    match w.rej.ports.head? with
    | some h =>
      if cfgLinked x.cfg h then
        send x (t.onWr fun w => { w with chkSide := some h, wait := w.wait.set h true }) h (tokLock r 0b1011)
      else
        let t := t.onWr fun w => { w with chkSide := some h, sideOk := false }
        if t.wr.wait.ports = [] then checkAnswer x t r else t
    | none => t
  else if w.wait.ports = [] then checkAnswer x t r
  else t

/-- A check arrives (R203). A POINT that its detection gives no onward port refuses an overlap check with 0b100 (R194). -/
def checkArrives (x : TileCtx) (t : TileSt) (p : Port) (r : RouteId) (arg : BitVec 4) : TileSt :=
  let mode := checkMode arg
  let per := cfgPers x.cfg
  let rm : ReqMode := if mode = 1 then .overlap else if mode = 2 then .flank else .new
  if x.mute then refuse x t p r rm 2
  else
    match isEnd x p && decide (mode = 0), exitOf x r with
    | true, some m =>
      if per = .signal ∧ m.ovlLen ≠ 0 ∧ ¬ (t.vec.hold = 2 ∧ isOwn x.cfg t.vec.route) then
        if cfgLinked x.cfg .b then
          send x (t.onWr fun w => { w with xWait := true, xRoute := some r }) .b (tokLock r 0b1010)
        else exitResult x t false r
      else exitResult x t true r
    | _, _ =>
      if holds t r ∧ t.vec.hold = expectedHold mode then
        if mode = 2 ∧ ((per = .point ∧ p ≠ .a) ∨ (per = .signal ∧ p = .b)) then
          let ok := if per = .point then decide (pointDet t.vec = posOf (otherHeel p)) && !ps t.vec 4 else true
          send x t p (tokConfirm r (0b0100 ||| ofBit 0 ok))
        else if mode = 1 ∧ per = .point ∧ onwardOvl x t.vec p = [] then refuse x t p r rm 4
        else
          let f := decide (mode = 0) && bit arg 0 && decide (per = .point)
          let on := if mode = 1 then onwardOvl x t.vec p else if mode = 2 then onwardFlank x p else onward x p
          let linked := on.filter (cfgLinked x.cfg)
          let unlinked := on.filter fun q => !cfgLinked x.cfg q
          let t := t.onWr fun w =>
            { w with chkPort := some p, chkMode := mode, chkFlank := f, chkSide := none, sideOk := false, ok := true, go := false,
                     conf := Four.rep false, rej := unlinked.foldl (fun a q => a.set q true) (Four.rep false),
                     wait := linked.foldl (fun a q => a.set q true) (Four.rep false) }
          let t := sendAll x t linked (tokLock r arg)
          let t :=
            if f ∧ p ≠ .a then
              let h := otherHeel p
              if cfgLinked x.cfg h then
                send x (t.onWr fun w => { w with chkSide := some h, wait := w.wait.set h true }) h (tokLock r 0b1011)
              else t.onWr fun w => { w with chkSide := some h }
            else t
          checkProgress x t r
      else if mode = 2 ∧ per = .buffer then send x t p (tokConfirm r 0b0101)
      else refuse x t p r .new 6

/-- An answer of P5 arrives on a port: CONFIRM with its ok and go, or REJECT with its cause (R203). A heel that answers REJECT 0b110 is
the flank heel of a point entered at its toe. -/
def checkReply (x : TileCtx) (t : TileSt) (p : Port) (r : RouteId) (cause : Option (BitVec 3)) (ok go : Bool) : TileSt :=
  let conf := cause.isNone
  if t.wr.xWait ∧ t.wr.xRoute = some r ∧ p = .b then
    exitResult x (t.onWr fun w => { w with xWait := false }) (conf && ok) r
  else if holds t r ∧ t.wr.wait.get p then
    if isEntry x t then entryAnswer x t (conf && ok) (conf && go)
    else if t.wr.chkSide = some p then
      checkProgress x (t.onWr fun w => { w with wait := w.wait.set p false, sideOk := conf && ok }) r
    else
      let t := t.onWr fun w =>
        { w with wait := w.wait.set p false, conf := if conf then w.conf.set p true else w.conf,
                 rej := if cause = some 6 then w.rej.set p true else w.rej, ok := if conf then w.ok && ok else w.ok,
                 go := if conf then go else w.go }
      checkProgress x t r
  else t

end Sys2Proof.Machine
end

