-- ==== Sys2Proof/Machine/Fabric.lean ====
section
/-! DEFINITION. The fabric of a lane: token exchange and tile evaluation in a wave step (R73 to R78, R85), the ACT report (R75,
R133), quiescence and the order of the phases (R27, R76, R77), what the waves report (R218, R219), the output latch of P6
(R130), the edge counts of a settling splice (R296) and the timers that a command of its own can run (R140). -/

namespace Sys2Proof.Machine

open Sys2Proof

/-! ### The context of a tile -/

/-- The region of an element is enabled (R143). -/
def regionOn (g : RegionState) (e : Elem) : Bool := bit g.regEn (regionOf e)

/-- What the rushes give one tile (R181). -/
def tileCtx (l : Lane) (settle : Bool) (t : Tile) : TileCtx :=
  let e := cfgElem t.cfg
  let barred := bit l.vit.reg.regRestrict (regionOf e)
  { cfg := t.cfg, elem := e,
    latch := l.fab.latches.find? fun x => decide (x.elem = e),
    exit := l.fab.exits.find? fun x => decide (x.elem = e),
    via := (l.fab.vias.find? fun x => decide (x.1 = e)).map (·.2),
    barred := barred, mute := barred || decide (cfgPers t.cfg = .reserved),
    snap := l.vit.inputs, force := l.vit.force, settle := settle }

/-! ### One tile in one wave step -/

/-- BAR arrives (R131, R656). -/
def barArrives (x : TileCtx) (ph : Phase) (t : TileSt) (p : Port) : TileSt :=
  let t := { t with vec := { t.vec with restrict := true } }
  match ph with
  | .p1 => t.onWr fun w => { w with barIn := w.barIn.set p true, ps := w.ps.set p none }
  | .p3 | .p4 =>
    let t := if t.wr.xWait ∧ p = .b then rejectArrives x t p (t.wr.xRoute.getD 0) 2 else t
    if t.wr.wait.get p ∨ t.wr.flankWait then
      (if t.wr.couple.isSome ∧ p = .d then t else rejectArrives x t p t.vec.route 2) else t
  | .p5 =>
    let t := if t.wr.xWait ∧ p = .b then checkReply x t p (t.wr.xRoute.getD 0) (some 2) false false else t
    if t.wr.wait.get p then checkReply x t p t.vec.route (some 2) false false else t
  | _ => t

/-- An invalid token counts as BAR and sets FAULT (R72, R136, R187). -/
def invalidArrives (x : TileCtx) (ph : Phase) (t : TileSt) (p : Port) : TileSt :=
  let t := barArrives x ph t p
  { t with vec := { t.vec with fault := true } }

/-- A token of kind CONFIRM, LOCK, RELEASE, STATE or REJECT acts on the tile (R138). -/
def tokenActs (x : TileCtx) (ph : Phase) (t : TileSt) (p : Port) (k : Token) : TileSt :=
  let b0 := bit k.arg 0
  let b1 := bit k.arg 1
  if k.kind = 5 then
    if ph = .p1 ∧ k.route.toNat < 16 ∧ senderFits x.cfg p (field k.route 0 4) then
      t.onWr fun w => { w with ps := w.ps.set p (some (k.arg, field k.route 0 4)) }
    else invalidArrives x ph t p
  else if ¬ argListed ph k then invalidArrives x ph t p
  else if k.kind = 2 then
    if ph = .p4 then
      if k.arg = 7 then
        if p = .d ∧ (t.wr.couple.map (·.1)) = some k.route then coupleAnswer x t true 0 else t
      else if bit k.arg 2 then sideArrives x t p k.route b0
      else if holds t k.route then confirmArrives x t p k.route b0 b1 else t
    else checkReply x t p k.route none b0 (b1 && !bit k.arg 2)
  else if k.kind = 3 then
    if ph = .p4 then
      if bit k.arg 3 then
        if p = .d ∧ cfgPers x.cfg = .point ∧ paramBit x.cfg 33 then coupleAsked x t k.route k.arg else invalidArrives x ph t p
      else if bit k.arg 2 then sideLockArrives x t k.route b0
      else lockArrives x t p k.route b0
    else checkArrives x t p k.route k.arg
  else if k.kind = 4 then releaseArrives x t p k
  else if k.kind = 6 then
    if ph = .p5 then checkReply x t p k.route (some (field k.arg 0 3)) false false
    else rejectArrives x t p k.route (field k.arg 0 3)
  else t

/-- A REQUEST that has won acts (R195, R200). -/
def requestActs (x : TileCtx) (ph : Phase) (t : TileSt) (p : Port) (k : Token) : TileSt :=
  if ¬ argListed ph k then invalidArrives x ph t p
  else if reqMode k.arg = .flank then flankArrives x t p k.route (k.arg &&& 0b0011)
  else requestWins x t p k.route k.arg

/-- One received token in its order (R78, R134, R190); `heldIn`: a HELD request of the holding route is among the tokens of the
step; the Bool says that a REQUEST has already won. -/
def tokenIn (x : TileCtx) (ph : Phase) (heldIn : Bool) (a : TileSt × Bool) (e : Port × Token) : TileSt × Bool :=
  let (t, won) := a
  let (p, k) := e
  if k.kind = 0 then (invalidArrives x ph t p, won)
  else if k.kind = 7 then (barArrives x ph t p, won)
  else if k.kind = 1 ∧ argListed ph k then
    let m := reqMode k.arg
    let holder := decide (m = .held) && holds t k.route && decide (t.vec.hold = 1) && !t.wr.isNew
    if holder ∨ t.vec.restrict then (requestActs x ph t p k, won)
    else if heldIn then (refuse x t p k.route m 1, won)
    else if won then (refuse x t p k.route m 0, won)
    else (requestActs x ph t p k, true)
  else if k.kind = 1 then (invalidArrives x ph t p, won)
  else (tokenActs x ph t p k, won)

/-- A token takes its place in the order of R78: ascending ROUTE, then ascending port. -/
def orderIn : List (Port × Token) → Port × Token → List (Port × Token)
  | [], e => [e]
  | f :: l, e => if e.2.route.toNat < f.2.route.toNat then e :: f :: l else f :: orderIn l e

/-- The tokens of a wave step in their order; the none token of R72 is no token. -/
def tokensOf (ins : Four Token) : List (Port × Token) :=
  ((Port.all.map fun p => (p, ins.get p)).filter fun e => decide (e.2 ≠ tokNone)).foldl orderIn []

/-- All tokens of a wave step act (R78). -/
def takeTokens (x : TileCtx) (ph : Phase) (ins : Four Token) (t : TileSt) : TileSt :=
  let l := tokensOf ins
  let heldIn := l.any fun e =>
    decide (e.2.kind = 1) && decide (reqMode e.2.arg = .held) && holds t e.2.route && decide (t.vec.hold = 1) && !t.wr.isNew
  (l.foldl (tokenIn x ph heldIn) (t, false)).1

/-- STATE on every linked port (R135), with the own DET on port D of a coupled POINT (R149). -/
def sendState (x : TileCtx) (t : TileSt) (a : BitVec 4 × BitVec 4) : TileSt :=
  let t := Port.all.foldl (fun t p => send x t p (tokState (cfgPersCode x.cfg) (if p = .d then a.2 else a.1))) t
  t.onWr fun w => { w with sentArg := some a }

/-- The BAR that a tile of a barred region, or of R118, sends in wave step 1 of every phase (R132, R295). -/
def sendBar (x : TileCtx) (t : TileSt) : TileSt :=
  if x.mute then
    let k := if x.barred then { tokBar with route := (cfgPersCode x.cfg).zeroExtend 13 } else tokBar
    Port.all.foldl (fun t p => sendAny x t p k) t
  else t

/-- The work of a tile in a wave step of a phase. -/
def tileWork (x : TileCtx) (ph : Phase) (step : Nat) (ins : Four Token) (t : TileSt) : TileSt :=
  if step = 1 then
    let t := t.onWr fun w =>
      { w with bar1 := { a := decide (ins.a.kind = 7), b := decide (ins.b.kind = 7), c := decide (ins.c.kind = 7),
                         d := decide (ins.d.kind = 7) } }
    match ph with
    | .p1 =>
      let t := p1Start x (sendBar x t)
      takeTokens x ph ins (sendState x t (stateArgs x t.vec))
    | .p2 => p2Start x (takeTokens x ph ins (sendBar x t))
    | .p3 => p3Start x (takeTokens x ph ins (sendBar x t))
    | .p4 => p4Start x (takeTokens x ph ins (sendBar x t))
    | .p5 => p5Start x (takeTokens x ph ins (sendBar x t))
    | _ => takeTokens x ph ins (sendBar x t)
  else
    match ph with
    | .p1 =>
      let a := stateArgs x t.vec
      let t := if t.wr.sentArg = some a then t else sendState x t a
      p1Step x step (takeTokens x ph ins t)
    | .p2 =>
      let t := takeTokens x ph ins t
      if step = 2 then p2Release x ins t else t
    | _ => takeTokens x ph ins t

/-- What a tile reports of a wave step (R75): ACT, and the counts of events 0x01, 0x04 and 0x05 of R591. -/
structure TileRep where
  act  : Bool
  gws  : Nat
  bars : Nat
  rejs : Nat
  deriving DecidableEq, Repr

/-- A wave step of one tile: the tile with the tokens it now sends, its vector, what it gives the lane and its report. -/
def tileStep (x : TileCtx) (ph : Phase) (step : Nat) (ins : Four Token) (tile : Tile) (v : TileVec) :
    Tile × TileVec × List TileEv × TileRep :=
  let t := tileWork x ph step ins { vec := v, wr := tile.wr, queue := tile.queue, evs := [] }
  let out := fun (p : Port) => (t.queue.get p).headD tokNone
  let outs : Four Token := { a := out .a, b := out .b, c := out .c, d := out .d }
  let rest : Four (List Token) :=
    { a := t.queue.a.drop 1, b := t.queue.b.drop 1, c := t.queue.c.drop 1, d := t.queue.d.drop 1 }
  let inAct := Port.all.any fun p =>
    decide (ins.get p ≠ tokNone) && !(decide (step ≠ 1) && decide ((ins.get p).kind = 7) && t.wr.bar1.get p)
  let sent := Port.all.filter fun p => decide (outs.get p ≠ tokNone)
  let gw := fun (p : Port) => portViaGw (cfgPort x.cfg p)
  ({ tile with wr := t.wr, out := outs, queue := rest }, t.vec, t.evs,
   { act := inAct || decide (sent ≠ []) || decide (t.vec ≠ v)
     gws := (sent.filter gw).length + (Port.all.filter fun p => gw p && decide (ins.get p ≠ tokNone)).length
     bars := (Port.all.filter fun p => decide ((ins.get p).kind = 7)).length
     rejs := (sent.filter fun p => decide ((outs.get p).kind = 6)).length })

/-! ### The lane -/

/-- The tile at a physical address. -/
def tileAt (l : List Tile) (a : Elem) : Option Tile := l.find? fun t => decide (t.addr = a)

/-- The tile of an element. -/
def tileOf (l : List Tile) (e : Elem) : Option Tile := l.find? fun t => decide (cfgElem t.cfg = e)

/-- The token on the input channel of a port (R73, R74, R85): NONE in wave step 1 but from a gateway whose far region is not
enabled, which delivers BAR in every step. -/
def inputOn (l : Lane) (step : Nat) (t : Tile) (p : Port) : Token :=
  let d := cfgPort t.cfg p
  if portLinked d then
    match tileAt l.fab.tiles (portAddr d) with
    | some q =>
      if ¬ regionOn l.vit.reg (cfgElem q.cfg) then tokBar
      else if step = 1 then tokNone else q.out.get (portPeer d)
    | none => tokNone
  else tokNone

/-- The result of a wave step in all tiles of the enabled regions. -/
structure StepAll where
  tiles : List Tile
  vec   : List (Elem × TileVec)
  evs   : List TileEv
  reps  : List (Nat × TileRep)

/-- A vector that no tile evaluates in the step: FORCED follows the table in P1 (R484), all else stands (R143). -/
def stillVec (l : Lane) (ph : Phase) (step : Nat) (x : Elem × TileVec) : Elem × TileVec :=
  if ph = .p1 ∧ step = 1 then (x.1, { x.2 with forced := l.vit.force.any fun e => decide (e.target = x.1) }) else x

/-- Every tile of an enabled region evaluates once (R73, R74); the others keep still (R143). -/
def stepAll (l : Lane) (settle : Bool) (ph : Phase) (step : Nat) : StepAll :=
  let r := l.fab.tiles.foldl (fun (a : StepAll) t =>
    let e := cfgElem t.cfg
    if regionOn l.vit.reg e then
      let i := inputOn l step t
      let (t', v', evs, rep) := tileStep (tileCtx l settle t) ph step { a := i .a, b := i .b, c := i .c, d := i .d } t
        (vecOf l.vit.vec e)
      { tiles := t' :: a.tiles, vec := (e, v') :: a.vec, evs := a.evs ++ evs, reps := (regionOf e, rep) :: a.reps }
    else { a with tiles := t :: a.tiles }) { tiles := [], vec := [], evs := [], reps := [] }
  { tiles := r.tiles.reverse,
    vec := l.vit.vec.map fun x => match r.vec.find? fun y => decide (y.1 = x.1) with | some y => y | none => stillVec l ph step x,
    evs := r.evs, reps := r.reps }

/-! ### Outcomes -/

/-- A ROUTE record (R219, R498). For an item that names an element, the element stands in place of the route: DESIGN CHOICE (log
104). -/
def submitRoute (l : Lane) (what : BitVec 16) (code : Byte) (cause : BitVec 3) : Lane :=
  l.submit 0x40 (toBytes 2 what ++ [code, cause.zeroExtend 8] ++ toBytes 4 l.vit.hdr.takeNum)

/-- An outcome whose record R219 asks for: REFUSED in each form, DROPPED and CANCELLED. -/
def recordedOutcome (code : Byte) : Bool := decide (3 ≤ code.toNat ∧ code.toNat ≤ 8)

/-- The outcome of a request, command or item in record 7 (R218), with the Reel record that R219 asks for. -/
def itemOutcome (l : Lane) (seq : Word) (item : Nat) (what : BitVec 16) (code : Byte) (cause : BitVec 3) : Lane :=
  let l := l.onVit fun v =>
    { v with outcomes := v.outcomes ++
        [{ kind := .route, seq := seq, item := item, what := what, code := code, cause := cause }] }
  if recordedOutcome code then submitRoute l what code cause else l

/-- The outcome of a route command. -/
def routeOutcome (l : Lane) (q : Request) (code : Byte) (cause : BitVec 3) : Lane :=
  itemOutcome l q.seq q.item (q.route.zeroExtend 16) code cause

/-- A route's entry in a list of requests; without one the request of an earlier take, whose command is past. -/
def requestOf (l : List Request) (r : RouteId) : Request :=
  (l.find? fun q => decide (q.route = r)).getD { route := r, seq := 0, item := 0 }

/-- The outcome of an individual point call (R153, R218): one call leaves the list for each outcome. -/
def callOutcome (l : Lane) (c : PointCall) (code : Byte) (cause : BitVec 3) : Lane :=
  (itemOutcome l c.seq c.item (c.elem.zeroExtend 16) code cause).onFab fun f => { f with calls := f.calls.erase c }

/-- What a tile has given the lane takes effect (R218, R219). -/
def applyEv (l : Lane) (e : TileEv) : Lane :=
  match e with
  | .outcome r code cause held =>
    if code = 7 ∨ code = 0xB then
      ((l.fab.cancels.filter fun q => decide (q.route = r)).foldl (fun l q => routeOutcome l q code cause) l).onFab fun f =>
        { f with cancels := f.cancels.filter fun q => decide (q.route ≠ r) }
    else if held then
      if code = 6 then routeOutcome l { route := r, seq := 0, item := 0 } code cause else l
    else
      let q := requestOf l.fab.admitted r
      let l := (routeOutcome l q code cause).onFab fun f =>
        { f with admitted := f.admitted.filter fun q => decide (q.route ≠ r) }
      if code = 2 then l else l.onVit fun v => { v with pending := v.pending.filter fun q => decide (q.route ≠ r) }
  | .approach r => l.submit 0x41 (toBytes 2 (r.zeroExtend 16) ++ toBytes 4 l.vit.hdr.takeNum)
  | .released r => submitRoute l (r.zeroExtend 16) 7 0
  | .called e code cause =>
    match l.fab.calls.find? fun c => decide (c.elem = e) && c.issued with
    | some c => callOutcome l c code cause
    | none => l
  | .overflow => l.onFab fun f => { f with stuck := true }

/-! ### P6 and the edge counts -/

/-- The entry signal of a route shows proceed (R168). -/
def entryProceeds (l : Lane) (r : RouteId) : Bool :=
  l.fab.tiles.any fun t => isOwn t.cfg r && decide (sigAspect (vecOf l.vit.vec (cfgElem t.cfg)) ≠ 0)

/-- The pin is a single-ended output (MODE 0b011, R268), so that bound bits lie one pin apart (R125). -/
def singleEnded (d : StationData) (p : Nat) : Bool := decide (field (d.pins.getD (p - 1) 0) 0 3 = 0b011#3)

/-- The output bits of a tile laid into element data and pin commands (R125). -/
def placeOutputs (d : StationData) (b : Word) (o : BitVec 8) (a : List (SesId × ElemData) × BitVec 48) :
    List (SesId × ElemData) × BitVec 48 :=
  let n := bindBits b
  if bindSrc b = 1 then
    (a.1.map fun e =>
      if e.1 = bindSes b then
        (e.1, (List.range n).foldl (fun x i => setBit x ((bindOfs b).toNat + i) (bit o i)) e.2)
      else e, a.2)
  else if bindSrc b = 2 then
    let p := (bindPin b).toNat
    let step := if singleEnded d p then 1 else 2
    (a.1, (List.range n).foldl (fun x i => setBit x (p + step * i - 1) (bit o i)) a.2)
  else a

/-- A flag of the record of a session (R369). -/
def sesFlag (l : Lane) (n : SesId) (f : SesRec → Bool) : Bool :=
  ((l.vit.ses.find? fun x => decide (x.ses = n)).map f).getD false

/-- The output latch of P6 (R28, R35, R129, R130, R358): element data of every enabled session, with the FORCE and PAIRED fixed
at L, and the pin commands. -/
def p6Latch (l : Lane) : OutLatch :=
  let start := ((l.vit.ses.filter (·.enabled)).map fun x => (x.ses, (0 : ElemData)), (0 : BitVec 48))
  let r := l.fab.tiles.foldl (fun a t =>
    let e := cfgElem t.cfg
    let v := vecOf l.vit.vec e
    let o := tileOutputs (tileCtx l false t) (regionOn l.vit.reg e) v t.wr (decide (v.hold ≠ 0) && entryProceeds l v.route)
    placeOutputs l.data (cfgOut t.cfg) o a) start
  { payloads := r.1.map fun e =>
      { ses := e.1, claim := l.vit.hdr.claim, take := l.vit.hdr.takeNum, force := sesFlag l e.1 (·.force),
        paired := sesFlag l e.1 (·.paired), elem := e.2 },
    pins := r.2 }

/-- A take is consistent for the edge link of a port (R296). -/
def edgeConsistent (l : Lane) (t : Tile) (p : Port) (q : Tile) : Bool :=
  let pp := portPeer (cfgPort t.cfg p)
  (t.wr.ps.get p).isSome && q.wr.barIn.get pp && senderFits q.cfg pp (cfgPersCode t.cfg)
    && !(vecOf l.vit.vec (cfgElem t.cfg)).fault && !(vecOf l.vit.vec (cfgElem q.cfg)).fault

/-- The settle counts after P1, with an EDGE record for every inconsistent link (R296). -/
def edgeCount (l : Lane) : Lane :=
  let g := l.vit.reg
  if g.stage ≠ .settling then l
  else
    l.fab.tiles.foldl (fun (l : Lane) t =>
      let e := cfgElem t.cfg
      if ¬ (bit g.spliceSet (regionOf e) ∧ regionOn g e) then l
      else
        Port.all.foldl (fun (l : Lane) p =>
          let d := cfgPort t.cfg p
          match (if portLinked d then tileAt l.fab.tiles (portAddr d) else none) with
          | some q =>
            let f := cfgElem q.cfg
            if bit g.spliceSet (regionOf f) ∨ ¬ regionOn g f then l
            else
              let key := (BitVec.ofNat 4 (regionOf e), portGw d)
              let old := l.vit.reg.settle.find? fun s => decide (s.1 = key.1 ∧ s.2.1 = key.2)
              let n : BitVec 2 := match old with | some s => s.2.2 | none => 0
              let ok := edgeConsistent l t p q
              let n' : BitVec 2 := if ok then (if n = 2 then 2 else n + 1) else 0
              let l := l.onVit fun v =>
                { v with reg := { v.reg with
                    settle := (v.reg.settle.filter fun s => !(decide (s.1 = key.1 ∧ s.2.1 = key.2))) ++ [(key.1, key.2, n')] } }
              if ok then l else l.submit 0x34 (toBytes 2 (e.zeroExtend 16) ++ toBytes 4 l.vit.hdr.takeNum)
          | none => l) l) l

/-! ### Phases -/

/-- Phase number 0 to 6. -/
def Phase.num : Phase → Nat
  | .p0 => 0
  | .p1 => 1
  | .p2 => 2
  | .p3 => 3
  | .p4 => 4
  | .p5 => 5
  | .p6 => 6

/-- The phase after this one. -/
def Phase.next : Phase → Phase
  | .p0 => .p1
  | .p1 => .p2
  | .p2 => .p3
  | .p3 => .p4
  | .p4 => .p5
  | _ => .p6

/-- A phase begins: no wave step yet, channels empty (R74). -/
def startPhase (f : Fabric) (ph : Phase) : Fabric :=
  { f with phase := ph, step := 0, phaseNs := 0, quiet := false, running := true,
           tiles := f.tiles.map fun t => { t with out := Four.rep tokNone, queue := Four.rep [] } }

/-- The first call that is not issued yet is marked issued. -/
def markIssued : List PointCall → List PointCall
  | [] => []
  | c :: l => if c.issued then c :: markIssued l else { c with issued := true } :: l

/-- The next individual call, issued once the route waves of P4 are quiet (R153). DEDUCED: one after another in command order
(log 17). A POINT of a region that is not enabled evaluates nothing and cannot answer; its call is REFUSED with cause 0b010:
DESIGN CHOICE (log 105). -/
def issueCall (l : Lane) (settle : Bool) : Lane :=
  match l.fab.calls.find? fun c => !c.issued with
  | none => l
  | some c =>
    let c' := { c with issued := true }
    let l := l.onFab fun f => { f with calls := markIssued f.calls }
    match tileOf l.fab.tiles c.elem with
    | some t =>
      if ¬ regionOn l.vit.reg c.elem then callOutcome l c' 5 2
      else
        let r := callPoint (tileCtx l settle t) { vec := vecOf l.vit.vec c.elem, wr := t.wr, queue := t.queue, evs := [] } none
          (if c.reverse then 0b10 else 0b01)
        let t' := { t with wr := r.wr, out := { t.out with d := (r.queue.d).headD tokNone },
                           queue := { r.queue with d := r.queue.d.drop 1 } }
        let l := l.onFab fun f => { f with tiles := f.tiles.map fun u => if u.addr = t.addr then t' else u }
        let l := l.onVit fun v => { v with vec := vecMap v.vec c.elem fun _ => r.vec }
        r.evs.foldl applyEv l
    | none => callOutcome l c' 8 0

/-- In a wave step of P4 in which no route wave acts any more, the individual calls that wait act, one at a time, until one of them
changes its tile or sends a token: that tile's ACT keeps the step from being terminal (R75, R76, R153). The result names its
region. At most `n` calls. -/
def issueCalls (settle : Bool) : Nat → Lane → Lane × Option Nat
  | 0, l => (l, none)
  | n + 1, l =>
    match l.fab.calls.find? fun c => !c.issued with
    | none => (l, none)
    | some c =>
      let l' := issueCall l settle
      let sent : Lane → Option (Four Token × Four (List Token)) := fun x => (tileOf x.fab.tiles c.elem).map fun t => (t.out, t.queue)
      if vecOf l'.vit.vec c.elem ≠ vecOf l.vit.vec c.elem ∨ sent l' ≠ sent l then (l', some (regionOf c.elem))
      else issueCalls settle n l'

/-- A request that has had no answer by the end of P4 is refused with 0b010, so that it receives its one outcome (R218).
DEDUCED (log 16). -/
def closeRequests (l : Lane) : Lane :=
  l.fab.admitted.foldl (fun l q => applyEv l (.outcome q.route 0x5 2 false)) l

/-- A cancel of a live route whose entry SIGNAL is not scanned (R143) is refused by the end of P2, so that it receives its one outcome
(R218). DEDUCED (log 97). -/
def closeCancels (l : Lane) : Lane :=
  (l.fab.cancels.foldl (fun l q => routeOutcome l q 8 0) l).onFab fun f => { f with cancels := [] }

/-- The phase is quiescent (R76): its duration is kept and the next phase begins at once, but P6, which waits for L (R34). -/
def phaseQuiet (l : Lane) : Lane :=
  let ph := l.fab.phase
  let l := match ph with | .p1 => edgeCount l | .p2 => closeCancels l | .p4 => closeRequests l | _ => l
  l.onFab fun f =>
    let f := { f with durs := (f.durs ++ List.replicate (7 - f.durs.length) 0).set ph.num f.phaseNs }
    match ph with
    | .p5 => { f with quiet := true, running := false, settleNs := (f.durs.take 6).sum }
    | .p6 => { f with quiet := true, running := false }
    | _ => startPhase f ph.next

/-- Region times of the phase (R43, R77): the completion of the last step in which the region reported ACT, else of step 1. -/
def regionTimes (f : Fabric) (acts : List Nat) (regEn : BitVec 16) : List (Region × Phase × Nat) :=
  let hit := (List.range 16).filter fun r => bit regEn r && (decide (f.step = 1) || acts.contains r)
  (f.regionNs.filter fun e => !(decide (e.2.1 = f.phase) && hit.contains e.1.toNat))
    ++ hit.map fun r => (BitVec.ofNat 4 r, f.phase, f.phaseNs)

/-- The events of R591 that one wave step gives the region counters: (region, event code, count). -/
def stepEvents (reps : List (Nat × TileRep)) (regEn : BitVec 16) (quiet : Bool) : List (Nat × Byte × Nat) :=
  ((List.range 16).filter fun r => bit regEn r).flatMap fun r =>
    let mine := reps.filter fun e => decide (e.1 = r)
    let sum := fun (f : TileRep → Nat) => (mine.map fun e => f e.2).sum
    [(r, 0x00, 1), (r, 0x01, sum (·.gws)), (r, 0x04, sum (·.bars)), (r, 0x05, sum (·.rejs))]
      ++ (if quiet then [(r, 0x03, 1)] else [])

/-- The lane's next wave step, done after `ns` nanoseconds (R73 to R77). -/
def laneStep (l : Lane) (settle : Bool) (ns : Nat) : Lane × List (Nat × Byte × Nat) :=
  if ¬ l.fab.running ∨ l.fab.stuck then (l, [])
  else
    let ph := l.fab.phase
    let n := l.fab.step + 1
    let l := if ph = .p6 ∧ n = 1 then l.onVit fun v => { v with latch := p6Latch l } else l
    let r := stepAll l settle ph n
    let waves := (r.reps.filter fun e => e.2.act).map (·.1)
    let l := l.onVit fun v => { v with vec := r.vec }
    let l := l.onFab fun f => { f with tiles := r.tiles, step := n, phaseNs := f.phaseNs + ns }
    let l := r.evs.foldl applyEv l
    let r' := if ph = .p4 ∧ waves = [] then issueCalls settle l.fab.calls.length l else (l, none)
    let acts := waves ++ r'.2.toList
    let l := r'.1.onFab fun f => { f with regionNs := regionTimes f acts l.vit.reg.regEn }
    let quiet := decide (acts = []) && !l.fab.stuck
    let evs := stepEvents r.reps l.vit.reg.regEn quiet
    if l.fab.stuck then (l.onFab fun f => { f with running := false }, evs)
    else if quiet then (phaseQuiet l, evs)
    else if 1024 ≤ n then (l.onFab fun f => { f with running := false, stuck := true }, evs)
    else (l, evs)

/-! ### Timers with a command of their own -/

/-- One tile's vector and wave register changed. -/
def onTile (l : Lane) (e : Elem) (f : TileCtx → TileVec → WaveReg → TileVec × WaveReg) : Lane :=
  match tileOf l.fab.tiles e with
  | some t =>
    let (v, w) := f (tileCtx l false t) (vecOf l.vit.vec e) t.wr
    (l.onVit fun x => { x with vec := vecMap x.vec e fun _ => v }).onFab fun g =>
      { g with tiles := g.tiles.map fun u => if u.addr = t.addr then { u with wr := w } else u }
  | none => l

/-- A P1 timer of a tile runs out in this take: its section of P1 is done now, if that makes it expire, and not again by wave
step 1 (R140, R141). `due` compares the vector before and after. -/
def expireP1 (l : Lane) (e : Elem) (due : Pers → TileVec → TileVec → Bool) : Lane :=
  if l.evaluates ∧ l.fab.running ∧ l.fab.phase = .p1 ∧ l.fab.step = 0 ∧ regionOn l.vit.reg e then
    onTile l e fun x v w =>
      let v' := sectionP1 x (tileInputs x) v
      if ¬ w.timed ∧ due (cfgPers x.cfg) v v' then (v', { w with timed := true }) else (v, w)
  else l

/-- The movement timeout of a POINT (R154); a coupled one settles it once its partner has reported (R149). -/
def expireMove (l : Lane) (e : Elem) : Lane :=
  let due := fun (p : Pers) (v v' : TileVec) => decide (p = .point) && ps v 4 && !ps v' 4 && ps v' 5
  if l.evaluates ∧ l.fab.running ∧ l.fab.phase = .p1 ∧ 1 ≤ l.fab.step ∧ regionOn l.vit.reg e then
    onTile l e fun x v w =>
      let v' := pointMovement v
      if cfgPers x.cfg = .point ∧ paramBit x.cfg 33 ∧ ¬ w.timed ∧ due .point v v' then
        (withProving .point v', { w with timed := true })
      else (v, w)
  else expireP1 l e due

/-- The permission delay of an AUXLOGIC (R175) in P2 before wave step 1. -/
def expireDelay (l : Lane) (e : Elem) : Lane :=
  if l.evaluates ∧ l.fab.running ∧ l.fab.phase = .p2 ∧ l.fab.step = 0 ∧ regionOn l.vit.reg e then
    onTile l e fun x v w =>
      let v' := auxDelay x v
      if cfgPers x.cfg = .auxlogic ∧ ¬ ps v 2 ∧ ps v' 2 then (v', w) else (v, w)
  else l

/-- The proving grace of a SIGNAL that no check of P5 reaches (R158): the aspect is evaluated with route_ok = 0. The aspect that it
showed at the start of P5 stays known to the checks (R205). -/
def expireGrace (l : Lane) (e : Elem) : Lane :=
  if l.evaluates ∧ l.fab.running ∧ l.fab.phase = .p5 ∧ l.fab.step = 0 ∧ regionOn l.vit.reg e then
    onTile l e fun x v w =>
      if cfgPers x.cfg = .signal ∧ ¬ w.aspect ∧ field v.pstate 6 4 = 1#4 ∧ ¬ (v.hold = 2 ∧ isOwn x.cfg v.route) then
        let t := aspectEval x false false 0 false { vec := v, wr := { w with aspStart := sigAspect v }, queue := Four.rep [], evs := [] }
        (t.vec, t.wr)
      else (v, w)
  else l

/-- Approach locking ends (R214): in P2 before wave step 1, the SIGNAL releases itself and sends FREE on port B. -/
def expireApproach (l : Lane) (e : Elem) : Lane :=
  if l.evaluates ∧ l.fab.running ∧ l.fab.phase = .p2 ∧ l.fab.step = 0 ∧ regionOn l.vit.reg e then
    match tileOf l.fab.tiles e with
    | some t =>
      let v := vecOf l.vit.vec e
      let x := tileCtx l false t
      if cfgPers t.cfg = .signal ∧ v.hold ≠ 0 ∧ isOwn t.cfg v.route ∧ sigApproach v ∧ v.tmr = 0 then
        let asked := match x.latch with | some m => m.cancel && decide (m.route = v.route) | none => false
        let evs : List TileEv := (if asked then [.outcome v.route 0xB 0 true] else []) ++ [.released v.route]
        let r := sendFree x { vec := releaseTile .signal v, wr := t.wr, queue := t.queue, evs := evs } [.b] v.route
        let l := l.onVit fun y => { y with vec := vecMap y.vec e fun _ => r.vec }
        let l := l.onFab fun g =>
          { g with tiles := g.tiles.map fun u => if u.addr = t.addr then { u with queue := r.queue } else u }
        r.evs.foldl applyEv l
      else l
    | none => l
  else l

end Sys2Proof.Machine
end

