-- ==== Sys2Proof/Machine/Commands.lean ====
section
/-! DEFINITION. What a lane does with the commands that it applies in P0: route commands and items (R183, R184, R215, R640,
R646), enables (R272, R278), splice commands (R283 to R292), mode, force and blocking commands (R481 to R486), coordinator
services (R548), and the mailbox message that carries them (R541, R545, R642). -/

namespace Sys2Proof.Machine

open Sys2Proof

/-! ### What the lanes know of the module -/

/-- What a lane takes from the module when it applies commands: the mode that its rules test, the number of ACTIVE lanes,
whether a debugger is attached, the lanes that LANE_RESET may start, whether R410 holds, the splice set of a staged verified
partial image. -/
structure CmdCtx where
  mode   : Mode
  active : Nat
  dbg    : Bool
  reset  : LaneMask
  wrapOk : Bool
  image  : Option (BitVec 16)

/-- What an applied command asks of the module beside the lane's own state. -/
inductive ModReq where
  /-- MODE_SEL and the mode change at L (R481). -/
  | mode (commissioning : Bool)
  /-- The force and blocking table has changed (R495). -/
  | table
  /-- LANE_RESET (R548). -/
  | reset (l : LaneId)
  /-- LANE_WRAP (R411). -/
  | wrap (l : LaneId)
  /-- The splice takes the staged image into use, or ends (R291, R290). -/
  | spliceUse
  | spliceEnd
  /-- The splice is barred: its marker stands, whichever SPLICE_BAR the coordinator has journaled since (R300, log 54). -/
  | marker (set : BitVec 16)
  /-- A field group enable has been cleared (R454). -/
  | groupOff (g : Nat)
  /-- The mailbox outcome of a broadcast mailbox (R545). -/
  | mstat (k : Nat) (code : BitVec 4)
  deriving DecidableEq, Repr

/-- The lane is in P0 of a take, and its first wave step is still to come. -/
def Lane.inP0 (l : Lane) : Bool := l.evaluates && l.fab.running && decide (l.fab.phase = .p0 ∧ l.fab.step = 0)

/-! ### Outcomes and records -/

/-- A command outcome enters record 7 (R233). -/
def Lane.outcome (l : Lane) (kind : OutcomeKind) (seq : Word) (item : Nat) (what : BitVec 16) (code : Byte) (cause : BitVec 3) :
    Lane :=
  l.onVit fun v => { v with outcomes := v.outcomes ++
    [{ kind := kind, seq := seq, item := item, what := what, code := code, cause := cause }] }

/-- The reason record of R279. -/
def reasonWord (code : Byte) (scope : BitVec 3) (item : BitVec 16) : Word :=
  place 32 0 code ||| place 32 8 scope ||| place 32 16 item

/-- A decision of the consistency check: reason latched, command outcome, CHECK record (R277, R279, R498). -/
def Lane.reason (l : Lane) (seq : Word) (code : Byte) (scope : BitVec 3) (item : BitVec 16) : Lane :=
  (l.outcome .enable seq 0 item code scope).submit 0x32
    (toBytes 4 (reasonWord code scope item) ++ toBytes 4 l.vit.hdr.takeNum)

/-- An ERL record (R498): step 0 arm, 1 exec, 2 expiry, 3 ended. -/
def Lane.erlRecord (l : Lane) (r : RouteId) (step : Byte) : Lane :=
  l.submit 0x42 (toBytes 2 (r.zeroExtend 16) ++ [step] ++ toBytes 4 l.vit.hdr.takeNum)

/-! ### Routes -/

/-- The active route-table entry of a route (R176). -/
def Lane.route (l : Lane) (r : RouteId) : Quad := planeRoute l.mem.cells l.vit.reg.rtActive r.toNat

/-- The entry of the shadow route-table plane. -/
def Lane.shadowRoute (l : Lane) (r : RouteId) : Quad := planeRoute l.mem.cells (!l.vit.reg.rtActive) r.toNat

/-- Some tile holds the route (04, terms). -/
def liveIn (v : Vital) (r : RouteId) : Bool := v.vec.any fun e => decide (e.2.hold ≠ 0) && decide (e.2.route = r)

/-- A route joins an ascending list without repeats. -/
def routeInsert (r : RouteId) : List RouteId → List RouteId
  | [] => [r]
  | q :: l => if r.toNat < q.toNat then r :: q :: l else if r = q then q :: l else q :: routeInsert r l

/-- The live routes in ascending order (R180). -/
def liveRoutes (v : Vital) : List RouteId :=
  v.vec.foldl (fun l e => if e.2.hold ≠ 0 then routeInsert e.2.route l else l) []

/-- ENTRY, EXIT or VIA of a valid entry lies in a set of regions (R289). -/
def routeEndsIn (e : Quad) (set : BitVec 16) : Bool :=
  rtValid e && (bit set (regionOf (rtEntry e)) || bit set (regionOf (rtExit e))
    || (rtViaEn e && bit set (regionOf (rtVia e))))

/-- Takes of shadow loading for a splice set: ceil((n + 8) / 4) (R291). -/
def loadTakes (set : BitVec 16) : Nat := (popCount set 16 + 8 + 3) / 4

/-- Loading has ended and its content still counts (R289). -/
def shadowLoaded (g : RegionState) (loaded : Nat) : Bool :=
  match g.stage with
  | .checked | .scheduled | .settling => true
  | .loading => decide (loadTakes g.spliceSet ≤ loaded)
  | _ => false

/-- The route is barred by a splice (R289). -/
def Lane.routeBarred (l : Lane) (r : RouteId) : Bool :=
  let g := l.vit.reg
  let e := l.route r
  decide (g.stage ≠ .none) && (routeEndsIn e g.spliceSet ||
    (shadowLoaded g l.mem.loaded && (routeEndsIn (l.shadowRoute r) g.spliceSet || decide (l.shadowRoute r ≠ e))))

/-- The hold condition of a splice (R292). -/
def Lane.spliceClear (l : Lane) : Bool :=
  (l.vit.vec.all fun e => decide (e.2.hold = 0) || !bit l.vit.reg.spliceSet (regionOf e.1))
    && ((liveRoutes l.vit).all fun r => !l.routeBarred r)

/-- The count of the route timer table that an index selects (R178). -/
def Lane.timer (l : Lane) (i : BitVec 6) : BitVec 16 := l.data.timers.getD i.toNat 0

/-- The emergency release of a route runs (R215). -/
def erlRuns (v : Vital) (r : RouteId) : Bool := v.erl.any fun e => decide (e.route = r) && e.running

/-- The route latch of a SIGNAL for a route (R181). -/
def Lane.latchOf (l : Lane) (sig : Elem) (r : RouteId) (admitted : Bool) : RouteLatch :=
  let e := l.route r
  { elem := sig, route := r, cls := rtClass e, doorDep := rtDoorDep e, flank := rtFlank e, appr := l.timer (rtApprIdx e),
    cancel := l.fab.cancels.any fun q => decide (q.route = r), erl := erlRuns l.vit r, admitted := admitted }

/-- The exit mark of a route (R181). FREE is carried in the take in which the emergency release expires (R215). -/
def Lane.exitOf (l : Lane) (r : RouteId) (live : Bool) : ExitMark :=
  let e := l.route r
  { elem := rtExit e, route := r, ovlLen := rtOvlLen e, ovlClass := rtOvlClass e, viaEn := rtViaEn e, flank := rtFlank e,
    free := l.vit.erl.any fun x => decide (x.route = r) && x.expired, live := live }

/-- Latches and exit marks of the live routes (R180, R181). -/
def Lane.loadMarks (l : Lane) : Lane :=
  let sigs := l.fab.tiles.filterMap fun t =>
    let v := vecOf l.vit.vec (cfgElem t.cfg)
    if v.hold ≠ 0 ∧ isOwn t.cfg v.route then some (l.latchOf (cfgElem t.cfg) v.route false) else none
  let exits := (liveRoutes l.vit).map fun r => l.exitOf r true
  l.onFab fun f => { f with latches := sigs, exits := exits, vias := [] }

/-- A request leaves the agreed request set. -/
def Lane.unpend (l : Lane) (r : RouteId) : Lane :=
  l.onVit fun v => { v with pending := v.pending.filter fun q => decide (q.route ≠ r) }

/-- Marked tiles that a request would share with one admitted earlier in the take (R183). -/
def Lane.marksMeet (l : Lane) (e : Quad) : Bool :=
  let ends := rtExit e :: (if rtViaEn e then [rtVia e] else [])
  (l.fab.latches.any fun x => x.admitted && decide (x.elem = rtEntry e))
    || (ends.any fun t => (l.fab.exits.any fun x => !x.live && decide (x.elem = t))
                          || l.fab.vias.any fun x => decide (x.1 = t))

/-- P0 examines a pending request (R183). -/
def Lane.examine (l : Lane) (q : Request) : Lane :=
  let l := l.onFab fun f => { f with taken := f.taken + 1 }
  let e := l.route q.route
  if ¬ rtValid e ∨ l.routeBarred q.route then (routeOutcome l q 8 0).unpend q.route
  else if (vecOf l.vit.vec (rtEntry e)).hold ≠ 0 then (routeOutcome l q 3 0).unpend q.route
  else if l.fab.exits.any fun x => x.live && decide (x.elem = rtExit e) then (routeOutcome l q 4 0).unpend q.route
  else if l.marksMeet e then routeOutcome l q 2 0
  else
    l.onFab fun f =>
      { f with
        latches := f.latches ++ [l.latchOf (rtEntry e) q.route true]
        exits := f.exits ++ [l.exitOf q.route false]
        vias := if rtViaEn e then f.vias ++ [(rtVia e, q.route)] else f.vias
        admitted := f.admitted ++ [q] }

/-- P0 takes at most 64 pending requests, the lowest route identifiers first (R31), once its commands have all been applied: as its
first wave step begins. -/
def Lane.examineAll (l : Lane) : Lane := (l.vit.pending.take (64 - l.fab.taken)).foldl Lane.examine l

/-- A request takes its place in the pending set by route identifier. -/
def pendInsert (q : Request) : List Request → List Request
  | [] => [q]
  | p :: l => if q.route.toNat < p.route.toNat then q :: p :: l else p :: pendInsert q l

/-- A route request enters the pending set (R646). -/
def Lane.requestRoute (l : Lane) (q : Request) : Lane :=
  if l.vit.pending.any fun p => decide (p.route = q.route) then l
  else if 256 ≤ l.vit.pending.length then routeOutcome l q 8 0
  else l.onVit fun v => { v with pending := pendInsert q v.pending }

/-- A cancel in P0 (R184). A live route that no SIGNAL holds as its own has no latch to take it; the cancel is then
REFUSED_INVALID. DEDUCED (log 18). -/
def Lane.cancelRoute (l : Lane) (q : Request) : Lane :=
  if liveIn l.vit q.route then
    if l.fab.tiles.any fun t => isOwn t.cfg q.route && decide ((vecOf l.vit.vec (cfgElem t.cfg)).hold ≠ 0)
        && decide ((vecOf l.vit.vec (cfgElem t.cfg)).route = q.route) then
      l.onFab fun f =>
        { f with cancels := f.cancels ++ [q]
                 latches := f.latches.map fun x => if x.route = q.route then { x with cancel := true } else x }
    else routeOutcome l q 8 0
  else
    match l.vit.pending.find? fun p => decide (p.route = q.route) with
    | some p => routeOutcome ((routeOutcome l p 8 0).unpend q.route) q 7 0
    | none => routeOutcome l q 8 0

/-- The personality of the tile of an element. -/
def Lane.persOf (l : Lane) (e : Elem) : Pers :=
  match tileOf l.fab.tiles e with
  | some t => cfgPers t.cfg
  | none => .empty

/-- An individual point call enters the rushes (R153, R640). -/
def Lane.callItem (l : Lane) (e : Elem) (reverse : Bool) (seq : Word) (item : Nat) : Lane :=
  if l.persOf e = .point then
    l.onFab fun f => { f with calls := f.calls ++ [{ elem := e, reverse := reverse, seq := seq, item := item, issued := false }] }
  else itemOutcome l seq item (e.zeroExtend 16) 8 0

/-- A door or plunger item enters the rushes (R163, R164, R171, R640). -/
def Lane.rushItem (l : Lane) (p : Pers) (e : Elem) (seq : Word) (item : Nat) (f : Snapshot → Snapshot) : Lane :=
  if l.persOf e = p then
    itemOutcome (l.onVit fun v => { v with inputs := f v.inputs }) seq item (e.zeroExtend 16) 0xC 0
  else itemOutcome l seq item (e.zeroExtend 16) 8 0

/-- Door release. -/
def Lane.releaseItem (l : Lane) (e : Elem) (seq : Word) (item : Nat) : Lane :=
  l.rushItem .doors e seq item fun i => { i with release := i.release ++ [e] }

/-- Door close. -/
def Lane.closeItem (l : Lane) (e : Elem) (seq : Word) (item : Nat) : Lane :=
  l.rushItem .doors e seq item fun i => { i with close := i.close ++ [e] }

/-- Plunger reset. -/
def Lane.resetItem (l : Lane) (e : Elem) (seq : Word) (item : Nat) : Lane :=
  l.rushItem .plunger e seq item fun i => { i with reset := i.reset ++ [e] }

/-- ERL_ARM (R215, R216). -/
def Lane.erlArm (l : Lane) (q : Request) : Lane :=
  if liveIn l.vit q.route ∧ ¬ (l.vit.erl.any fun e => decide (e.route = q.route)) ∧ l.vit.erl.length < 8 then
    ((l.onVit fun v =>
      { v with erl := v.erl ++
          [{ route := q.route, armTake := v.hdr.takeNum, running := false, tmr := 0, expired := false }] }).erlRecord q.route 0
      |> fun l => routeOutcome l q 9 0)
  else routeOutcome l q 8 0

/-- ERL_EXEC (R215): from take k + 1 to take k + 256. -/
def Lane.erlExec (l : Lane) (q : Request) : Lane :=
  let ok := fun (e : ErlEntry) =>
    let d := (l.vit.hdr.takeNum - e.armTake).toNat
    decide (e.route = q.route) && !e.running && decide (1 ≤ d ∧ d ≤ 256)
  if l.vit.erl.any ok then
    let n := l.timer (rtErlIdx (l.route q.route))
    let l := l.onVit fun v =>
      { v with erl := v.erl.map fun e => if e.route = q.route then { e with running := true, tmr := n } else e }
    let l := l.onFab fun f =>
      { f with latches := f.latches.map fun x => if x.route = q.route then { x with erl := true } else x }
    routeOutcome (l.erlRecord q.route 1) q 0xA 0
  else routeOutcome l q 8 0

/-- The exit marks of a route carry FREE. -/
def Lane.freeExit (l : Lane) (r : RouteId) : Lane :=
  l.onFab fun f => { f with exits := f.exits.map fun x => if x.route = r then { x with free := true } else x }

/-- The emergency-release timer of a route is due (R215). -/
def Lane.erlExpire (l : Lane) (r : RouteId) : Lane :=
  if l.vit.erl.any fun e => decide (e.route = r) && e.running && decide (e.tmr = 0) && !e.expired then
    ((l.onVit fun v => { v with erl := v.erl.map fun e => if e.route = r then { e with expired := true } else e }).freeExit r
      ).erlRecord r 2
  else l

/-- An arm whose window has passed lapses (R215). -/
def Lane.erlLapse (l : Lane) (r : RouteId) : Lane :=
  let late := fun (e : ErlEntry) =>
    decide (e.route = r) && !e.running && decide (256 < (l.vit.hdr.takeNum - e.armTake).toNat)
  if l.vit.erl.any late then (l.onVit fun v => { v with erl := v.erl.filter fun e => !late e }).erlRecord r 3 else l

/-- The emergency releases at the start of P0 (R215): one that has expired is over, one whose route is no longer live ends, an
arm lapses, and running timers decrement. -/
def Lane.erlTick (l : Lane) : Lane :=
  let l := l.onVit fun v => { v with erl := v.erl.filter fun e => !e.expired }
  let l := l.vit.erl.foldl (fun (l : Lane) e =>
    if liveIn l.vit e.route then l.erlLapse e.route
    else (l.onVit fun v => { v with erl := v.erl.filter fun x => decide (x.route ≠ e.route) }).erlRecord e.route 3) l
  let l := l.onVit fun v => { v with erl := v.erl.map fun e => if e.running then { e with tmr := e.tmr - 1 } else e }
  l.vit.erl.foldl (fun (l : Lane) e => l.erlExpire e.route) l

/-- A batch item (R640). -/
def Lane.batchItem (l : Lane) (seq : Word) (i : Nat) (w : BitVec 16) : Lane :=
  let r : RouteId := field w 0 13
  let e : Elem := field w 0 12
  let q : Request := { route := r, seq := seq, item := i }
  match (field w 13 3).toNat with
  | 0 => l
  | 1 => l.requestRoute q
  | 2 => l.cancelRoute q
  | 3 => l.callItem e false seq i
  | 4 => l.callItem e true seq i
  | 5 => l.releaseItem e seq i
  | 6 => l.closeItem e seq i
  | _ => l.resetItem e seq i

/-! ### Enables -/

/-- A failed splice check or an invalid shadow (R291): outcome FAILED, shadow planes invalid, stage barred. -/
def Lane.spliceOutcome (l : Lane) (seq : Word) (code : Byte) : Lane :=
  let g := l.vit.reg
  let st : Byte := match g.stage with
    | .none => 0 | .barred => 1 | .loading => 2 | .checked => 3 | .scheduled => 4 | .settling => 5
  (l.outcome .splice seq 0 g.spliceSet code 0).submit 0x33 ([st, code] ++ toBytes 2 g.spliceSet)

/-- The region state changed. -/
def Lane.onReg (l : Lane) (f : RegionState → RegionState) : Lane := l.onVit fun v => { v with reg := f v.reg }

/-- The shadow planes of the splice set and of the route table become invalid. -/
def shadowDrop (g : RegionState) : RegionState := { g with shadow := g.shadow &&& ~~~g.spliceSet, rtShadow := false }

/-- The lane runs the check of a splice or of a service load. -/
def Lane.checksShadow (l : Lane) : Bool := match l.check with | some c => decide (c.scope = 2) | none => false

/-- The splice falls back to stage barred with FAILED (R291, R293, R302). A check of another enable goes on. -/
def Lane.spliceFail (l : Lane) (seq : Word) : Lane :=
  (({ l with check := if l.checksShadow then none else l.check, mem := { l.mem with loaded := 0 } }).onReg fun g =>
    { shadowDrop g with stage := .barred, commitTake := 0, sched := false }).spliceOutcome seq 7

/-- An enable command starts the check of its scope, or is refused with CHECK_BUSY (R272, R278). -/
def Lane.enable (l : Lane) (seq : Word) (scope : BitVec 3) (item : BitVec 16) : Lane :=
  match l.check with
  | some _ => l.reason seq 0x80 scope item
  | none => { l with check := some { scope := scope, item := item, set := 0, slice := 0, start := l.vit.hdr.takeNum, seq := seq, result := none } }

/-- Clearing the enable of (`scope`, `item`) ends a running check whose scope holds it (R278, R302). -/
def Lane.abortCheck (l : Lane) (scope : BitVec 3) (item : BitVec 16) : Lane :=
  match l.check with
  | none => l
  | some c =>
    let inScope := decide (c.scope = 0) || (decide (c.scope = scope) && decide (c.item = item))
      || (decide (c.scope = 2) && decide (scope = 1) && bit c.set item.toNat)
    if ¬ inScope then l
    else
      let l := ({ l with check := none }).reason c.seq 0x81 c.scope item
      if c.scope = 2 ∧ l.vit.reg.stage = .loading then l.spliceFail c.seq else l

/-- REGION_DIS (R272, R480). -/
def Lane.regionOff (l : Lane) (r : Region) : Lane :=
  let l := l.onReg fun g => { g with regEn := setBit g.regEn r.toNat false }
  ({ l with disabled := setBit l.disabled r.toNat true }).abortCheck 1 (r.zeroExtend 16)

/-- SESSION_DIS (R350). -/
def Lane.sessionOff (l : Lane) (n : SesId) : Lane :=
  let l := l.onVit fun v =>
    { v with ses := v.ses.map fun x => if x.ses = n then { x with enabled := false, fresh := false } else x
             inputs := { v.inputs with sesIn := v.inputs.sesIn.filter fun e => decide (e.1 ≠ n) } }
  l.abortCheck 3 (n.zeroExtend 16)

/-- GROUP_DIS (R272): its pins read restricted from this take on (R434). -/
def Lane.groupOff (l : Lane) (g : Nat) : Lane :=
  if 1 ≤ g ∧ g ≤ 6 then
    let l := l.onReg fun r => { r with grpEn := setBit r.grpEn (g - 1) false }
    let l := l.onVit fun v => { v with inputs := { v.inputs with rmask := v.inputs.rmask ||| groupPins g } }
    l.abortCheck 4 (BitVec.ofNat 16 g)
  else l

/-! ### Splices -/

/-- The modes of R284. -/
def spliceMode (m : Mode) : Bool := decide (m = .vital ∨ m = .degraded ∨ m = .commissioning)

/-- SPLICE_BAR (R284 to R288). Where it is refused with no splice in hand, the marker that the coordinator has journaled for it is
removed (log 54). -/
def Lane.spliceBar (x : CmdCtx) (l : Lane) (seq : Word) (set : BitVec 16) :
    Lane × List ModReq :=
  let none_ := decide (l.vit.reg.stage = .none)
  if ¬ spliceMode x.mode then (l.spliceOutcome seq 1, if none_ then [.spliceEnd] else [])
  else if ¬ none_ then (l.spliceOutcome seq 2, [])
  else if set = 0 ∨ 14 < popCount set 16 then (l.spliceOutcome seq 3, [.spliceEnd])
  else
    ((({ l with noticed := false }).onReg fun g =>
      { g with stage := .barred, spliceSet := set, regRestrict := g.regRestrict ||| set, commitTake := 0, sched := false, settle := [] }
      ).spliceOutcome seq 0, [.marker set])

/-- SPLICE_LOAD (R285, R286, R291). -/
def Lane.spliceLoad (x : CmdCtx) (l : Lane) (seq : Word) : Lane × List ModReq :=
  if ¬ spliceMode x.mode then (l.spliceOutcome seq 1, [])
  else if l.vit.reg.stage ≠ .barred then (l.spliceOutcome seq 2, [])
  else if x.image ≠ some l.vit.reg.spliceSet then (l.spliceOutcome seq 4, [])
  else
    ((({ l with mem := { l.mem with loaded := 0 } }).onReg fun g =>
      { shadowDrop g with stage := .loading, commitTake := 0, sched := false }).spliceOutcome seq 0, [.spliceUse])

/-- SPLICE_SCHEDULE (R286, R292). -/
def Lane.spliceSchedule (x : CmdCtx) (l : Lane) (seq t : Word) : Lane :=
  let g := l.vit.reg
  let d := (t - l.vit.hdr.takeNum).toNat
  if ¬ spliceMode x.mode then l.spliceOutcome seq 1
  else if ¬ (g.stage = .loading ∨ g.stage = .checked ∨ g.stage = .scheduled) then l.spliceOutcome seq 2
  else if d < 2 ∨ 4096 < d then l.spliceOutcome seq 6
  else if ¬ l.spliceClear then l.spliceOutcome seq 5
  else
    (l.onReg fun g => { g with commitTake := t, sched := true, stage := if g.stage = .loading then .loading else .scheduled }
      ).spliceOutcome seq 0

/-- SPLICE_ABORT (R285, R290). -/
def Lane.spliceAbort (x : CmdCtx) (l : Lane) (seq : Word) : Lane × List ModReq :=
  let g := l.vit.reg
  if ¬ spliceMode x.mode then (l.spliceOutcome seq 1, [])
  else if g.stage = .none ∨ g.stage = .settling then (l.spliceOutcome seq 2, [])
  else
    let l := { l with check := if l.checksShadow then none else l.check, mem := { l.mem with loaded := 0 } }
    let l := (l.onReg fun g => { shadowDrop g with regRestrict := g.regRestrict &&& ~~~g.spliceSet, stage := .none }
      ).spliceOutcome seq 0xA
    (l.onReg fun g => { g with spliceSet := 0, commitTake := 0, sched := false, settle := [] }, [.spliceEnd])

/-! ### Modes, forces and blockings -/

/-- Number of input bits of a personality (R126, R127). -/
def inWidth (c : TileCfg) : Nat :=
  match cfgPers c with
  | .track => if paramBit c 33 then 3 else 2
  | .point | .signal => 5
  | .doors | .boundary => 4
  | .buffer => if paramBit c 0 then 1 else 0
  | .plunger => 2
  | .auxlogic => if bindSrc (cfgIn c) = 0 then 0 else bindBits (cfgIn c)
  | _ => 0

/-- Number of output bits of a personality (R129). -/
def outWidth (c : TileCfg) : Nat :=
  match cfgPers c with
  | .point => 2
  | .signal => 3
  | .doors | .plunger | .auxlogic => 1
  | .boundary => 4
  | _ => 0

/-- A force, blocking or mode command's outcome with its FORCE record (R486, R498). `cmd` is the low byte of its TYPE. -/
def Lane.forceOutcome (l : Lane) (seq : Word) (cmd : Byte) (a : ForceArg) (code : Byte) : Lane :=
  (l.outcome .force seq 0 a.target code 0).submit 0x48
    (toBytes 2 a.target ++ [a.type, a.first, a.width, a.value, cmd, code])

/-- The empty entry that mode commands record. -/
def noForce : ForceArg := { target := 0, type := 0, first := 0, width := 0, value := 0 }

/-- MODE_VITAL and MODE_COMMISSION (R481, R486). -/
def Lane.modeCmd (x : CmdCtx) (l : Lane) (seq : Word) (commissioning : Bool) : Lane × List ModReq :=
  let cmd : Byte := if commissioning then 0x41 else 0x40
  if commissioning then
    if x.mode = .vital ∨ x.mode = .degraded then (l.forceOutcome seq cmd noForce 0, [.mode true])
    else (l.forceOutcome seq cmd noForce 1, [])
  else if x.mode ≠ .commissioning then (l.forceOutcome seq cmd noForce 1, [])
  else if x.active = 3 ∧ ¬ x.dbg ∧ (l.vit.force.all fun e => decide (e.type ≠ 1 ∧ e.type ≠ 2)) then
    (l.forceOutcome seq cmd noForce 0, [.mode false])
  else (l.forceOutcome seq cmd noForce 5, [])

/-- The entry that a command names: TARGET without VALID, and a tile blocking without bits (R482, R483). -/
def forceKey (a : ForceArg) (t : Word) : ForceEntry :=
  let whole := decide (a.type = 5 ∨ a.type = 6)
  { target := field a.target 0 12, type := a.type, first := if whole then 0 else a.first,
    width := if whole then 0 else a.width, value := if whole then 0 else a.value, take := t }

/-- Two entries name the same TARGET, TYPE, FIRST and WIDTH (R485). -/
def sameEntry (a b : ForceEntry) : Bool :=
  decide (a.target = b.target ∧ a.type = b.type ∧ a.first = b.first ∧ a.width = b.width)

/-- Two entries of one TYPE share a bit of one element. -/
def entriesMeet (a b : ForceEntry) : Bool :=
  decide (a.target = b.target ∧ a.type = b.type) && decide (a.first.toNat ≤ b.first.toNat + b.width.toNat)
    && decide (b.first.toNat ≤ a.first.toNat + a.width.toNat)

/-- The element has the bits that an entry names (R486: REFUSED_TARGET). -/
def Lane.forceTarget (l : Lane) (e : ForceEntry) : Bool :=
  match tileOf l.fab.tiles e.target with
  | none => false
  | some t =>
    let n := if e.type = 1 ∨ e.type = 3 then inWidth t.cfg else outWidth t.cfg
    decide (cfgPers t.cfg ≠ .empty) && (decide (e.type = 5) || decide (e.first.toNat + e.width.toNat < n))

/-- FORCE_SET and BLOCK_SET (R485, R486). `cmd` is 0x50 or 0x51. -/
def Lane.forcePut (x : CmdCtx) (l : Lane) (seq : Word) (cmd : Byte) (a : ForceArg) : Lane × List ModReq :=
  let e := forceKey a l.vit.hdr.takeNum
  let modeOk := if cmd = 0x50 then decide (x.mode = .commissioning) else spliceMode x.mode
  let typeOk := if cmd = 0x50 then decide (a.type = 1 ∨ a.type = 2) else decide (a.type = 3 ∨ a.type = 4 ∨ a.type = 5)
  if ¬ modeOk then (l.forceOutcome seq cmd a 1, [])
  else if ¬ typeOk then (l.forceOutcome seq cmd a 7, [])
  else if ¬ l.forceTarget e then (l.forceOutcome seq cmd a 2, [])
  else if l.vit.force.any (sameEntry e) then
    ((l.onVit fun v => { v with force := v.force.map fun f => if sameEntry e f then { f with value := e.value } else f }
      ).forceOutcome seq cmd a 0, [.table])
  else if l.vit.force.any (entriesMeet e) then (l.forceOutcome seq cmd a 3, [])
  else if 256 ≤ l.vit.force.length then (l.forceOutcome seq cmd a 4, [])
  else ((l.onVit fun v => { v with force := v.force ++ [e] }).forceOutcome seq cmd a 0, [.table])

/-- FORCE_CLEAR (R485, R486). -/
def Lane.forceClear (x : CmdCtx) (l : Lane) (seq : Word) (a : ForceArg) : Lane × List ModReq :=
  let e := forceKey a 0
  if ¬ spliceMode x.mode then (l.forceOutcome seq 0x52 a 1, [])
  else if a.type = 0 ∨ 6 < a.type.toNat then (l.forceOutcome seq 0x52 a 7, [])
  else if l.vit.force.any (sameEntry e) then
    ((l.onVit fun v => { v with force := v.force.filter fun f => !sameEntry e f }).forceOutcome seq 0x52 a 0, [.table])
  else (l.forceOutcome seq 0x52 a 6, [])

/-! ### Coordinator services -/

/-- LANE_RESET (R548). -/
def Lane.resetCmd (x : CmdCtx) (l : Lane) (seq : Word) (n : LaneId) : Lane × List ModReq :=
  if n.inMask x.reset then (l.outcome .service seq 0 0x101 0 0, [.reset n]) else (l.outcome .service seq 0 0x101 2 0, [])

/-- LANE_WRAP (R411, R548). -/
def Lane.wrapCmd (x : CmdCtx) (l : Lane) (seq : Word) (n : LaneId) : Lane × List ModReq :=
  if x.wrapOk then (l.outcome .service seq 0 0x102 0 0, [.wrap n]) else (l.outcome .service seq 0 0x102 2 0, [])

/-- AREA_NOTICE (R297, R548). -/
def Lane.noticeCmd (l : Lane) (seq : Word) (d : BitVec 64) : Lane :=
  if l.vit.reg.stage = .settling ∧ getBE 64 l.data.logDigest 0 8 = d then
    ({ l with noticed := true }).outcome .service seq 0 0x104 0 0
  else l.outcome .service seq 0 0x104 2 0

/-! ### Mailbox messages -/

/-- Word `i` of a message. -/
def mbxWord (w : List Word) (i : Nat) : Word := w.getD i 0

/-- The bytes of words. -/
def wordBytes (l : List Word) : Bytes := l.flatMap fun w => toBytes 4 w

/-- CHECK of a message (R541). -/
def mbxCheck (w : List Word) (len : Nat) : Word := crc32c (wordBytes (w.take 7 ++ ((w.take len).drop 8)))

/-- Words of ARGS that a code uses (R541, R548, R639): one word for each number, as many as a BATCH or entry needs.
DEDUCED (log 19). -/
def argWords (code : Nat) : Nat :=
  if code = 0x01 then 8
  else if code = 0x50 ∨ code = 0x51 ∨ code = 0x52 ∨ code = 0x104 then 2
  else if code = 0x31 ∨ code = 0x33 ∨ code = 0x40 ∨ code = 0x41 ∨ code = 0x103 then 0
  else if code = 0x10 ∨ code = 0x11 ∨ (0x20 ≤ code ∧ code ≤ 0x25) ∨ code = 0x30 ∨ code = 0x32 ∨ code = 0x101 ∨ code = 0x102
    then 1
  else 8

/-- The codes that need authorisation (R548, R639). -/
def needsAuth (code : Nat) : Bool :=
  decide (code = 0x10 ∨ code = 0x11 ∨ (0x20 ≤ code ∧ code ≤ 0x25) ∨ (0x30 ≤ code ∧ code ≤ 0x33) ∨ code = 0x40 ∨ code = 0x41
    ∨ (0x50 ≤ code ∧ code ≤ 0x52) ∨ code = 0x101 ∨ code = 0x103)

/-- The two client digests of AUTH (R642). -/
def authDigests (w : List Word) : BitVec 48 × BitVec 48 :=
  let b := wordBytes [mbxWord w 4, mbxWord w 5, mbxWord w 6]
  (getBE 48 b 0 6, getBE 48 b 6 6)

/-- AUTH passes the lanes' check (R642). -/
def authOk (code : Nat) (w : List Word) : Bool :=
  let d := authDigests w
  if needsAuth code then decide (d.1 ≠ 0 ∧ d.2 ≠ 0 ∧ d.1 ≠ d.2) else decide (d.1 = 0 ∧ d.2 = 0)

/-- The words and bits that R541 requires to be 0 are 0. -/
def mbxZeros (w : List Word) (len : Nat) : Bool :=
  let w0 := mbxWord w 0
  let w3 := mbxWord w 3
  decide (field w0 17 15 = 0) && (!bit w0 16 || decide (mbxWord w 2 = 0)) && decide (field w3 3 5 = 0)
    && decide (field w3 16 16 = 0) && ((w.take len).drop (8 + argWords (field w0 0 16).toNat)).all fun x => decide (x = 0)

/-- The message applies in a later take (R545). -/
def mbxPending (w : List Word) (take : Word) : Bool := !bit (mbxWord w 0) 16 && later (mbxWord w 2) take

/-- The mailbox outcome of a compared message that is read (R545). -/
def mbxOutcome (c : MbxCopy) (take : Word) : BitVec 4 :=
  let w := c.words
  let n := c.len.toNat
  let code := (field (mbxWord w 0) 0 16).toNat
  if c.cmp = some false then 1
  else if mbxWord w 7 ≠ mbxCheck w n ∨ ¬ mbxZeros w n then 2
  else if code = 0 ∨ 0x104 < code then 3
  else if ¬ bit (mbxWord w 0) 16 ∧ later take (mbxWord w 2) then 4
  else if ¬ authOk code w then 5
  else 0

/-- The entry of R482 that a message carries in its first two argument words. -/
def argForce (w : List Word) : ForceArg :=
  let b := wordBytes [mbxWord w 8, mbxWord w 9]
  { target := getBE 16 b 0 2, type := b.getD 2 0, first := b.getD 3 0, width := b.getD 4 0, value := b.getD 5 0 }

/-- A lane operation without requests to the module. -/
def pureOp (l : Lane) : Lane × List ModReq := (l, [])

/-- An applied message goes to the rules of its code. -/
def Lane.applyCode (x : CmdCtx) (l : Lane) (w : List Word) (len : Nat) : Lane × List ModReq :=
  let code := (field (mbxWord w 0) 0 16).toNat
  let seq := mbxWord w 1
  let a := mbxWord w 8
  let q : Request := { route := field a 0 13, seq := seq, item := 0 }
  let n := LaneId.ofNum (field a 0 2).toNat
  if code = 0x01 then
    let items := ((w.take len).drop 8).flatMap fun v => [field v 16 16, field v 0 16]
    pureOp (((List.range items.length).zip items).foldl (fun l e => l.batchItem seq e.1 e.2) l)
  else if code = 0x10 then pureOp (l.erlArm q)
  else if code = 0x11 then pureOp (l.erlExec q)
  else if code = 0x20 then pureOp (l.enable seq 1 ((field a 0 4).zeroExtend 16))
  else if code = 0x21 then pureOp (l.regionOff (field a 0 4))
  else if code = 0x22 then pureOp (l.enable seq 3 ((field a 0 9).zeroExtend 16))
  else if code = 0x23 then pureOp (l.sessionOff (field a 0 9))
  else if code = 0x24 then pureOp (l.enable seq 4 ((field a 0 3).zeroExtend 16))
  else if code = 0x25 then (l.groupOff (field a 0 3).toNat, [.groupOff (field a 0 3).toNat])
  else if code = 0x30 then l.spliceBar x seq (field a 0 16)
  else if code = 0x31 then l.spliceLoad x seq
  else if code = 0x32 then pureOp (l.spliceSchedule x seq a)
  else if code = 0x33 then l.spliceAbort x seq
  else if code = 0x40 then l.modeCmd x seq false
  else if code = 0x41 then l.modeCmd x seq true
  else if code = 0x50 then l.forcePut x seq 0x50 (argForce w)
  else if code = 0x51 then l.forcePut x seq 0x51 (argForce w)
  else if code = 0x52 then l.forceClear x seq (argForce w)
  else if code = 0x101 then l.resetCmd x seq n
  else if code = 0x102 then l.wrapCmd x seq n
  else if code = 0x103 then pureOp (l.outcome .service seq 0 0x103 1 0)
  else if code = 0x104 then pureOp (l.noticeCmd seq (a ++ mbxWord w 9))
  else pureOp l

/-- Copies that hold a compared command, with their mailbox, in ascending SEQ (R545). -/
def orderSeq : List (Nat × MbxCopy) → Nat × MbxCopy → List (Nat × MbxCopy)
  | [], e => [e]
  | f :: l, e => if later (mbxWord f.2.words 1) (mbxWord e.2.words 1) then e :: f :: l else f :: orderSeq l e

/-- A lane takes the compared commands in command order (R545): a command of a later take stays, every other is read and gets
its mailbox outcome, and one that passes all checks is applied. A SPLICE_BAR that fails one leaves no marker (log 54). A command refused with DISAGREE leaves nothing in the vital state, in
which the lanes could then differ (R544; DEDUCED, log 34). -/
def Lane.takeCommands (x : CmdCtx) (l : Lane) : Lane × List ModReq :=
  let have_ := (((List.range l.mbx.length).zip l.mbx).filter fun e => e.2.full && e.2.cmp.isSome).foldl orderSeq []
  have_.foldl (fun (a : Lane × List ModReq) e =>
    let (l, reqs) := a
    let take := l.vit.hdr.takeNum
    if e.2.cmp = some false then ({ l with mbx := l.mbx.set e.1 { e.2 with full := false, cmp := none } }, reqs ++ [.mstat e.1 1])
    else if mbxPending e.2.words take then (l, reqs ++ [.mstat e.1 6])
    else
      let o := mbxOutcome e.2 take
      let l := { l with mbx := l.mbx.set e.1 { e.2 with full := false, cmp := none } }
      let l := l.outcome .mailbox (mbxWord e.2.words 1) 0 (field (mbxWord e.2.words 0) 0 16) (o.zeroExtend 8) 0
      if o = 0 then
        let (l, more) := l.applyCode x e.2.words e.2.len.toNat
        (l, reqs ++ [.mstat e.1 o] ++ more)
      else
        let bar := decide (field (mbxWord e.2.words 0) 0 16 = 0x30#16 ∧ l.vit.reg.stage = .none)
        (l, reqs ++ [.mstat e.1 o] ++ if bar then [.spliceEnd] else [])) (l, [])

end Sys2Proof.Machine
end

