-- ==== Sys2Proof/Machine/Image.lean ====
section
/-! DEFINITION. Images: the manifest and sections of the container (R261 to R266), signature (R263), the content that a chain of
images gives a lane (R266, R269, R520), loading it into the planes (R90, R95), the configuration latches (R91), and the logical
and placement digests (R100, R104, R105). -/

namespace Sys2Proof.Machine

open Sys2Proof

/-! ### Manifest fields (R262) -/

/-- KIND. -/
def manKind (m : Bytes) : Byte := m.getD 6 0
/-- KEY_ID. -/
def manKey (m : Bytes) : Byte := m.getD 7 0
/-- IMAGE_ID. -/
def manImageId (m : Bytes) : Word := getBE 32 m 8 4
/-- VERSION. -/
def manVersion (m : Bytes) : Word := getBE 32 m 0xC 4
/-- BLOCK_CNT. -/
def manBlocks (m : Bytes) : Nat := natOfBytes (slice m 0x10 2)
/-- SECT_CNT. -/
def manSects (m : Bytes) : Nat := (m.getD 0x12 0).toNat
/-- N_CFG. -/
def manNCfg (m : Bytes) : Byte := m.getD 0x14 0
/-- N_MAX. -/
def manNMax (m : Bytes) : Byte := m.getD 0x15 0
/-- S_IMG. -/
def manSImg (m : Bytes) : BitVec 16 := getBE 16 m 0x16 2
/-- WARM_AGE. -/
def manWarmAge (m : Bytes) : BitVec 16 := getBE 16 m 0x18 2
/-- SPLICE_SET. -/
def manSpliceSet (m : Bytes) : BitVec 16 := getBE 16 m 0x1A 2
/-- ROUTE_COUNT. -/
def manRouteCount (m : Bytes) : BitVec 16 := getBE 16 m 0x1C 2
/-- SES_COUNT. -/
def manSesCount (m : Bytes) : BitVec 16 := getBE 16 m 0x1E 2
/-- LOG_DIGEST. -/
def manLog (m : Bytes) : Bytes := slice m 0x20 64
/-- PLACE_A to PLACE_C. -/
def manPlace (m : Bytes) (l : LaneId) : Bytes := slice m (0x60 + 64 * l.num) 64
/-- BASE_DIGEST. -/
def manBase (m : Bytes) : Bytes := slice m 0x120 64
/-- PAIR_CLASS. -/
def manPairClass (m : Bytes) : Word := getBE 32 m 0x160 4

/-- A section entry (R264). -/
structure SectEntry where
  type   : Byte
  qual   : Byte
  first  : Nat
  len    : Nat
  rsv    : Bytes
  digest : Bytes

/-- Section entry `i`. -/
def manSect (m : Bytes) (i : Nat) : SectEntry :=
  let b := slice m (0x170 + 80 * i) 80
  { type := b.getD 0 0, qual := b.getD 1 0, first := natOfBytes (slice b 2 2), len := natOfBytes (slice b 4 4),
    rsv := slice b 8 8, digest := slice b 16 64 }

/-- All section entries. -/
def manSections (m : Bytes) : List SectEntry := (List.range (manSects m)).map (manSect m)

/-- Manifest length S. -/
def manLen (m : Bytes) : Nat := 0x170 + 80 * manSects m + 4 * manBlocks m + 64

/-- BLOCK_CRC of block `n`. -/
def manCrc (m : Bytes) (n : Nat) : Word := getBE 32 m (0x170 + 80 * manSects m + 4 * n) 4

/-- Every byte is 0. -/
def allZero (l : Bytes) : Bool := l.all fun b => decide (b = 0)

/-- Number of regions of a set. -/
def setSize (s : BitVec 16) : Nat := popCount s 16

/-- The length that a section type has in an image of a kind (R265, R266, R268, R269, R393); none where any length fits. -/
def sectLength (kind : Byte) (set : BitVec 16) (ty : Byte) : Option Nat :=
  if ty = 1 then some (if kind = 3 then 16384 * setSize set else 262144)
  else if ty = 2 then some 131072
  else if ty = 3 then some 128
  else if ty = 4 then some 32768
  else if ty = 5 then some 4088
  else if ty = 6 then some 216
  else if ty = 7 then some 262208
  else if ty = 8 then some 16
  else none

/-- The qualifier that a section type permits (R265). -/
def qualOk (ty q : Byte) : Bool :=
  if ty = 1 then decide (q.toNat ≤ 2) else if ty = 7 then decide (q.toNat ≤ 47) else decide (q = 0)

/-- The section types that an image kind may carry (R265, R266, R270). -/
def kindTypes (kind : Byte) : List Byte :=
  if kind = 1 then [0x10, 0x11] else if kind = 2 then [1, 2, 3, 4, 5, 6, 7, 8] else if kind = 3 then [1, 2, 3, 7]
  else if kind = 4 then [4, 8] else []

/-- The sections that an image kind carries exactly once, as (TYPE, QUAL) (R266, R270). -/
def kindNeeds (kind : Byte) : List (Byte × Byte) :=
  if kind = 1 then []
  else if kind = 2 then [(1, 0), (1, 1), (1, 2), (2, 0), (3, 0), (4, 0), (5, 0), (6, 0)]
  else if kind = 3 then [(1, 0), (1, 1), (1, 2), (2, 0), (3, 0)]
  else [(4, 0), (8, 0)]

/-- Number of blocks that `n` bytes fill. -/
def blocksFor (n : Nat) : Nat := (n + 65535) / 65536

/-- The section table keeps R264 to R266 and R270. -/
def sectionsOk (m : Bytes) : Bool :=
  let k := manKind m
  let l := manSections m
  (l.all fun x => (kindTypes k).contains x.type && qualOk x.type x.qual && allZero x.rsv
      && (match sectLength k (manSpliceSet m) x.type with | some n => decide (x.len = n) | none => true)
      && decide (x.first + blocksFor x.len ≤ manBlocks m))
    && ((kindNeeds k).all fun e => decide ((l.filter fun x => decide (x.type = e.1 ∧ x.qual = e.2)).length = 1))

/-- The manifest keeps R261 to R266 and R270 (reason MANIFEST). -/
def manifestOk (m : Bytes) : Bool :=
  let k := manKind m
  decide (getBE 32 m 0 4 = 0x4843494D#32 ∧ getBE 16 m 4 2 = 1#16) && decide (1 ≤ k.toNat ∧ k.toNat ≤ 4)
    && decide (1 ≤ manBlocks m ∧ manBlocks m ≤ 511) && decide (1 ≤ manSects m ∧ manSects m ≤ 64)
    && decide (m.length = manLen m) && decide (m.getD 0x13 0 = 0) && allZero (slice m 0x164 12)
    && (decide (k = 3) || (decide (manSpliceSet m = 0) && allZero (manBase m)))
    && (decide (k = 1) || decide (manPairClass m = 0)) && sectionsOk m

/-! ### Signature (R263) -/

/-- The public key that KEY_ID selects in a lane. -/
def Lane.keyOf (l : Lane) (id : Byte) : Option (BitVec 256) :=
  if id = 1 then some Config.firmwareKey
  else if 2 ≤ id.toNat ∧ id.toNat ≤ 5 then (l.keys.getD (id.toNat - 2) none)
  else none

/-- KEY_ID fits KIND and selects a key (reason KEY_KIND otherwise). -/
def Lane.keyFits (l : Lane) (m : Bytes) : Bool :=
  (decide (manKind m = 1) == decide (manKey m = 1)) && (l.keyOf (manKey m)).isSome

/-- The signature verifies, or no key is selected, which KEY_KIND refuses (R276, R280; log 20). -/
def Lane.signatureOk (l : Lane) (m : Bytes) : Bool :=
  match l.keyOf (manKey m) with
  | some k => ed25519Verify (toBytes 32 k) (sha512 (m.take (m.length - 64))) (m.drop (m.length - 64))
  | none => true

/-! ### Sections -/

/-- The bytes of a section. -/
def sectBytes (i : Image) (x : SectEntry) : Bytes :=
  (((i.blocks.drop x.first).take (blocksFor x.len)).flatten).take x.len

/-- The section of an image with a TYPE and QUAL. -/
def imageSect (i : Image) (ty q : Byte) : Option Bytes :=
  ((manSections i.manifest).find? fun x => decide (x.type = ty ∧ x.qual = q)).map (sectBytes i)

/-- Every section has its DIGEST (reason SECTION_DIGEST otherwise). -/
def digestsOk (i : Image) : Bool := (manSections i.manifest).all fun x => decide (sha512 (sectBytes i x) = x.digest)

/-- Numbers of `n` bytes each that a section lists. -/
def numbers (w n : Nat) (b : Bytes) : List (BitVec w) := (List.range (b.length / n)).map fun i => getBE w b (n * i) n

/-- The newest image of a chain that carries a section. -/
def newestSect (chain : List Image) (ty q : Byte) : Bytes :=
  (chain.filterMap fun i => imageSect i ty q).getLast?.getD []

/-- The regions of a set in ascending order. -/
def regionsOf (s : BitVec 16) : List Nat := (List.range 16).filter fun r => bit s r

/-- The 16 KiB of a region in the PLANES section of an image for a lane (R266). -/
def imageRegion (i : Image) (lane : LaneId) (r : Nat) : Option Bytes :=
  let set : BitVec 16 := if manKind i.manifest = 3 then manSpliceSet i.manifest else 0xFFFF
  if bit set r then
    (imageSect i 1 (BitVec.ofNat 8 lane.num)).map fun b => slice b (16384 * ((regionsOf set).filter (· < r)).length) 16384
  else none

/-- The configuration of a region for a lane: that of the newest image that covers it (R520). -/
def chainRegion (chain : List Image) (lane : LaneId) (r : Nat) : Bytes :=
  pad 16384 ((chain.filterMap fun i => imageRegion i lane r).getLast?.getD [])

/-- The station digest (R475): bytes 0 to 7 of SHA-512 over the manifests in commit order. -/
def stationDigest (chain : List Image) : BitVec 64 := digest8 (chain.flatMap (·.manifest))

/-- The manifest of the newest image. -/
def newestManifest (chain : List Image) : Bytes := (chain.getLast?.map (·.manifest)).getD []

/-- The RELOCATION sections of the newest image that carries any. -/
def chainRelocs (chain : List Image) : List (Byte × Bytes) :=
  let of := fun (i : Image) => (manSections i.manifest).filterMap fun x =>
    if x.type = 7 then some (x.qual, sectBytes i x) else none
  ((chain.map of).filter fun l => decide (l ≠ [])).getLast?.getD []

/-- The tables that a chain gives a lane beside the planes (R520). -/
def chainData (chain : List Image) : StationData :=
  let m := newestManifest chain
  let base := (chain.head?.map (·.manifest)).getD []
  let pins := newestSect chain 6 0
  { nCfg := (manNCfg m).truncate 6, nMax := (manNMax m).truncate 6, sImg := manSImg m, warmAge := manWarmAge m,
    routeCount := manRouteCount m, sesCount := manSesCount base, logDigest := manLog m,
    place := { a := manPlace m .a, b := manPlace m .b, c := manPlace m .c }, station := stationDigest chain,
    timers := numbers 16 2 (newestSect chain 3 0), callSheet := numbers 64 8 (newestSect chain 4 0),
    sessions := numbers 64 8 (newestSect chain 5 0), pins := (numbers 32 4 pins).take 48,
    groups := (numbers 32 4 pins).drop 48, relocs := chainRelocs chain, witness := newestSect chain 8 0 }

/-! ### Planes -/

/-- The codewords of a string of data bytes. -/
def encodeAll (b : Bytes) : Bytes := (List.range (b.length / 32)).flatMap fun i => rsEncode (slice b (32 * i) 32)

/-- A region written to a plane. -/
def storeRegion (m : Memory) (p : Bool) (r : Nat) (b : Bytes) : Memory :=
  memStore m (cfgAddr p (256 * r) 0) (encodeAll (pad 16384 b))

/-- A complete route table written to a plane. -/
def storeRoutes (m : Memory) (p : Bool) (b : Bytes) : Memory := memStore m (rtAddr p 0) (encodeAll (pad 131072 b))

/-- The region that a lane runs relocated: an unusable one with a relocation entry (R103, R269). -/
def Lane.relocRegion (l : Lane) (id : LaneId) : Option Nat :=
  (regionsOf l.store.unusable).find? fun r => (relocOf l.data id r).isSome

/-- The configuration plane that a lane loads: the relocation entry's where one applies (R269). -/
def Lane.planeFor (l : Lane) (id : LaneId) (chain : List Image) (r : Nat) : Bytes :=
  match l.relocRegion id with
  | some q => slice ((relocOf l.data id q).getD []) (64 + 16384 * r) 16384
  | none => chainRegion chain id r

/-- The lane loads tables and active planes from a chain of images (R236, R520); the plane numbers are those of its region
state. -/
def Lane.load (l : Lane) (id : LaneId) (chain : List Image) : Lane :=
  let l := { l with data := chainData chain }
  let g := l.vit.reg
  let m := (List.range 16).foldl (fun m r => storeRegion m (activePlane g r) r (l.planeFor id chain r)) l.mem.cells
  { l with mem := { l.mem with cells := storeRoutes m g.rtActive (newestSect chain 2 0) } }

/-- The configuration in a plane of a region at a physical address. -/
def Lane.cfgAt (l : Lane) (shadow : BitVec 16) (a : Elem) : TileCfg :=
  let r := regionOf a
  planeTile l.mem.cells (activePlane l.vit.reg r != bit shadow r) a.toNat

/-- The physical address that holds an element: R102, or in a relocated lane the tile, anywhere in the lane, whose configuration names
the element (R103, R269). -/
def Lane.holderOf (l : Lane) (id : LaneId) (shadow : BitVec 16) (e : Elem) : Elem :=
  match l.relocRegion id with
  | none => placed id e
  | some _ =>
    match (List.range 4096).find? fun i =>
        let c := l.cfgAt shadow (BitVec.ofNat 12 i)
        decide (cfgElem c = e) && decide (c ≠ 0) with
    | some i => BitVec.ofNat 12 i
    | none => placed id e

/-- The logical position at a physical address under R102. -/
def unplaced (l : LaneId) (a : Elem) : Elem :=
  let r := field a 8 4
  let c := field a 4 4
  let t := field a 0 4
  match l with
  | .a => a
  | .b => r ++ ((15 - c) ++ (15 - t))
  | .c => r ++ ((c - 5) ++ t)

/-- The element at a physical address. -/
def Lane.elemAt (l : Lane) (id : LaneId) (shadow : BitVec 16) (a : Elem) : Elem :=
  match l.relocRegion id with
  | none => unplaced id a
  | some _ => cfgElem (l.cfgAt shadow a)

/-- The place of a tile in a list in ascending element identifier; it replaces the tile at its address. -/
def tileInsert (t : Tile) (l : List Tile) : List Tile :=
  let l := l.filter fun u => decide (u.addr ≠ t.addr)
  (l.filter fun u => decide ((cfgElem u.cfg).toNat < (cfgElem t.cfg).toNat)) ++ t
    :: l.filter fun u => decide ((cfgElem t.cfg).toNat ≤ (cfgElem u.cfg).toNat)

/-- A tile with a configuration, its wave register and channels clear. -/
def freshTile (a : Elem) (c : TileCfg) : Tile :=
  { addr := a, cfg := c, wr := WaveReg.clear, out := Four.rep tokNone, queue := Four.rep [] }

/-- The configuration latches are loaded from the active planes (R91): one tile for every element with a configuration, in
ascending element identifier. Wave registers and channels start clear. -/
def Lane.latchTiles (l : Lane) (id : LaneId) : List Tile :=
  (List.range 4096).filterMap fun i =>
    let a := l.holderOf id 0 (BitVec.ofNat 12 i)
    let c := l.cfgAt 0 a
    if c = 0 then none
    else some (freshTile a c)

/-- The tiles reload their latches. -/
def Lane.reloadLatches (l : Lane) (id : LaneId) : Lane := l.onFab fun f => { f with tiles := l.latchTiles id }

/-! ### Digests -/

/-- The 64 bytes of a configuration. -/
def cfgBytes (c : TileCfg) : Bytes := toBytes 64 c

/-- A port descriptor in canonical form (R100): PEER_ADDR replaced by the element identifier of the far tile, VIA_GW, GW and
UPLINK 0, every other bit as it stands. An unlinked port has no far tile. -/
def canonPort (far : Elem → Elem) (d : Word) : Word :=
  let d' := setField d 15 (0 : BitVec 11)
  if portLinked d then setField d' 3 (far (portAddr d)) else d'

/-- A configuration in canonical form. -/
def canonCfg (far : Elem → Elem) (c : TileCfg) : TileCfg :=
  Port.all.foldl (fun c p => setField c (32 + 32 * p.num) (canonPort far (cfgPort c p))) c

/-- The canonical form of a logical region (R100); `shadow` and `rt` choose the planes "as they will stand". -/
def Lane.canonical (l : Lane) (id : LaneId) (shadow : BitVec 16) (rt : Bool) (r : Nat) : Bytes :=
  ((List.range 256).flatMap fun i =>
      cfgBytes (canonCfg (l.elemAt id shadow) (l.cfgAt shadow (l.holderOf id shadow (BitVec.ofNat 12 (256 * r + i))))))
    ++ (List.range 512).flatMap fun i => toBytes 16 (planeRoute l.mem.cells rt (512 * r + i))

/-- The region readback digest (R100). -/
def Lane.readback (l : Lane) (id : LaneId) (r : Nat) : BitVec 64 :=
  digest8 (l.canonical id 0 l.vit.reg.rtActive r)

/-- The logical digest (R104). -/
def Lane.logicalDigest (l : Lane) (id : LaneId) (shadow : BitVec 16) (rt : Bool) : Bytes :=
  sha512 ((List.range 16).flatMap fun r => l.canonical id shadow rt r)

/-- The placement digest (R104). -/
def Lane.placementDigest (l : Lane) (shadow : BitVec 16) (rt : Bool) : Bytes :=
  sha512 (((List.range 4096).flatMap fun a => cfgBytes (l.cfgAt shadow (BitVec.ofNat 12 a)))
    ++ (List.range 8192).flatMap fun r => toBytes 16 (planeRoute l.mem.cells rt r))

/-- The placement digest that the image gives for the lane, or its relocation entry (R105). -/
def Lane.givenPlacement (l : Lane) (id : LaneId) (place : Bytes) : Bytes :=
  match l.relocRegion id with
  | some q => slice ((relocOf l.data id q).getD []) 0 64
  | none => place

/-- Every image of the chain verifies and each partial image follows on the one before (R520). -/
def Lane.chainOk (l : Lane) (chain : List Image) : Bool :=
  decide (chain ≠ []) && (chain.all fun i => l.keyFits i.manifest && l.signatureOk i.manifest && digestsOk i)
    && ((chain.zip (chain.drop 1)).all fun e => decide (manBase e.2.manifest = manLog e.1.manifest))

/-- The lane verifies its content (R105, R520): VERIFY_STAT takes the result of the comparisons, and the lane may join where both match,
the chain of images verifies and no relocation that the lane needs is missing. -/
def Lane.noteVerify (l : Lane) (stat : BitVec 4) (ok : Bool) : Lane :=
  { l with verify := stat, verifyOk := ok && decide (field stat 0 2 = 3#2) }

/-- VERIFY_STAT of a lane (R105, R115): placement digest matched, logical digest matched, relocation entry used. -/
def Lane.verified (l : Lane) (id : LaneId) : BitVec 4 :=
  ofBit 0 (decide (l.placementDigest 0 l.vit.reg.rtActive = l.givenPlacement id (l.data.place.get id)))
    ||| ofBit 1 (decide (l.logicalDigest id 0 l.vit.reg.rtActive = l.data.logDigest))
    ||| ofBit 2 (l.relocRegion id).isSome

end Sys2Proof.Machine
end

