-- ==== Sys2Proof/Machine/Check.lean ====
section
/-! DEFINITION. The consistency check (R272 to R282): its slices by scope, the tests of each slice in ascending reason code and
item (R276, R280), the walk of a route's path and flanks (R179), and what a passed or failed check does (R275, R277, R291). -/

namespace Sys2Proof.Machine

open Sys2Proof

/-- What the slices of a check read: the lane and its letter, the regions and route table taken from the shadow planes, the
images under check, and whether any lane of the unit runs relocated. -/
structure CheckCtx where
  id      : LaneId
  lane    : Lane
  shadow  : BitVec 16
  rt      : Bool
  chain   : List Image
  staged  : Option Image
  relocated : Bool

/-- A slice (R273). -/
inductive Slice where
  | image | tiles (r : Nat) | routes (i : Nat) | callSheet (i : Nat) | sessions | pins (g : Option Nat) | global
  deriving DecidableEq, Repr

/-- The slices of a check, in order (R274). -/
def slicesOf (scope : BitVec 3) (item set : BitVec 16) : List Slice :=
  let routes := (List.range 32).map Slice.routes
  let sheet := (List.range 8).map Slice.callSheet
  if scope = 0 then [.image] ++ (List.range 16).map Slice.tiles ++ routes ++ sheet ++ [.sessions, .pins none, .global]
  else if scope = 1 then .tiles item.toNat :: routes
  else if scope = 2 then [.image] ++ (regionsOf set).map Slice.tiles ++ routes
  else if scope = 3 then .sessions :: sheet
  else [.pins (some item.toNat)]

/-- A test: reason code, and the items at which it fails in ascending order. -/
abbrev Test := Byte × (Unit → List Nat)

/-- The first failing test (R276). -/
def firstFail : List Test → Option (Byte × BitVec 16)
  | [] => none
  | t :: l => match t.2 () with | [] => firstFail l | i :: _ => some (t.1, BitVec.ofNat 16 i)

/-- A test of one fact without an item. -/
def fact (bad : Bool) (item : Nat) : List Nat := if bad then [item] else []

/-! ### Reading the planes under check -/

/-- The configuration at a physical address. -/
def CheckCtx.cfg (x : CheckCtx) (a : Elem) : TileCfg := x.lane.cfgAt x.shadow a

/-- The address of an element. -/
def CheckCtx.addr (x : CheckCtx) (e : Elem) : Elem := x.lane.holderOf x.id x.shadow e

/-- The configuration of an element. -/
def CheckCtx.tile (x : CheckCtx) (e : Elem) : TileCfg := x.cfg (x.addr e)

/-- A route-table entry. -/
def CheckCtx.route (x : CheckCtx) (r : Nat) : Quad := planeRoute x.lane.mem.cells x.rt r

/-- The far end of a linked port: physical address and port. -/
def CheckCtx.far (x : CheckCtx) (a : Elem) (p : Port) : Option (Elem × Port) :=
  let d := cfgPort (x.cfg a) p
  if portLinked d then some (portAddr d, portPeer d) else none

/-- All tile configurations by element. -/
def CheckCtx.all (x : CheckCtx) : List (Elem × TileCfg) :=
  (List.range 4096).map fun i => (BitVec.ofNat 12 i, x.tile (BitVec.ofNat 12 i))

/-! ### Image slice -/

/-- The plane that a lane runs holds an element tile in a region. -/
def Lane.regionUsed (l : Lane) (r : Nat) : Bool :=
  (List.range 256).any fun t => decide (cfgPers (l.cfgAt 0 (BitVec.ofNat 12 (256 * r + t))) ≠ .empty)

/-- The lane has an unusable region without the relocation entry that it needs (reason RELOC_MISSING): one that holds no element
tile needs none (R576). -/
def Lane.relocMissing (l : Lane) (id : LaneId) : Bool :=
  (regionsOf l.store.unusable).any fun r => (relocOf l.data id r).isNone && l.regionUsed r

/-- A shadow plane under check holds an uncorrectable codeword (reason SHADOW_INVALID). -/
def CheckCtx.shadowBad (x : CheckCtx) : Bool :=
  let m := x.lane.mem.cells
  let bad := fun (a : Nat) => decide (rsDecode (memLoad m a 36) = .uncorrectable)
  ((regionsOf x.shadow).any fun r =>
      (List.range 512).any fun k => bad (cfgAddr (!activePlane x.lane.vit.reg r) (256 * r) 0 + 36 * k))
    || (List.range 4096).any fun k => bad (rtAddr x.rt k)

/-- The image slice over the active chain (R396: a witness image carries no planes). -/
def CheckCtx.imageActive (x : CheckCtx) : List Test :=
  let l := x.lane
  let ms := x.chain.map (·.manifest)
  let witness := decide (manKind (newestManifest x.chain) = 4)
  let n := x.id.num
  [(0x03, fun _ => fact (!(decide (ms ≠ []) && ms.all manifestOk)) 0),
   (0x04, fun _ => fact (!ms.all l.signatureOk) 0),
   (0x05, fun _ => fact (!ms.all l.keyFits) 0),
   (0x07, fun _ => fact (!x.chain.all digestsOk) 0),
   (0x08, fun _ => fact (!witness && decide (l.logicalDigest x.id 0 x.rt ≠ l.data.logDigest)) n),
   (0x09, fun _ => fact (!witness && decide (l.placementDigest 0 x.rt ≠ l.givenPlacement x.id (l.data.place.get x.id))) n),
   (0x0A, fun _ => fact (!witness && l.relocMissing x.id) n),
   (0x0B, fun _ => fact (!(x.chain.zip (x.chain.drop 1)).all fun e => decide (manBase e.2.manifest = manLog e.1.manifest)) 0)]

/-- The image slice over a staged image (R270, R271, R291); `set` is the commanded set. A complete image, which a service load
stages, has no base and no splice set. Where a lane of the unit runs relocated, every lane refuses with SPLICE_RELOCATED, and none with
the digest of a lane before it, so that the reason is the same in every lane (R276; DEDUCED, log 116). -/
def CheckCtx.imageStaged (x : CheckCtx) (i : Image) (set : BitVec 16) : List Test :=
  let l := x.lane
  let m := i.manifest
  let n := x.id.num
  let part := decide (manKind m = 3)
  let active := newestManifest x.chain
  [(0x03, fun _ => fact (!(manifestOk m && (!part || decide (manNCfg m = manNCfg active ∧ manNMax m = manNMax active)))) 0),
   (0x04, fun _ => fact (!l.signatureOk m) 0),
   (0x05, fun _ => fact (!l.keyFits m) 0),
   (0x07, fun _ => fact (!digestsOk i) 0),
   (0x08, fun _ => fact (!x.relocated && decide (l.logicalDigest x.id x.shadow x.rt ≠ manLog m)) n),
   (0x09, fun _ => fact (!x.relocated && decide (l.placementDigest x.shadow x.rt ≠ manPlace m x.id)) n),
   (0x0A, fun _ => fact (l.relocMissing x.id) n),
   (0x0B, fun _ => fact (part && decide (manBase m ≠ l.data.logDigest)) 0),
   (0x0C, fun _ => fact (part && decide (manSpliceSet m = 0 ∨ manSpliceSet m ≠ set)) 0),
   (0x0D, fun _ => fact x.relocated 0),
   (0x0E, fun _ => fact x.shadowBad 0)]

/-! ### Tile slices -/

/-- Bits of PARAM that a personality defines (R121). -/
def paramDefined : Pers → BitVec 256
  | .track | .point => BitVec.ofNat 256 (2 ^ 34 - 1)
  | .signal => BitVec.ofNat 256 (2 ^ 112 - 1 - 0xFF00)
  | .doors => BitVec.ofNat 256 (2 ^ 19 - 1)
  | .buffer | .boundary => 1
  | .plunger => 7
  | .auxlogic => BitVec.ofNat 256 (2 ^ 169 - 1)
  | _ => 0

/-- R119 for an EMPTY tile. -/
def emptyDirty (c : TileCfg) : Bool :=
  decide (cfgPersCode c = 0) && ((Port.all.any (cfgLinked c)) || decide (bindSrc (cfgIn c) ≠ 0) || decide (bindSrc (cfgOut c) ≠ 0)
    || decide (cfgParam c ≠ 0) || decide (cfgRouteFirst c ≠ 0) || decide (cfgRouteCnt c ≠ 0))

/-- A reserved configuration bit is set, or an unlinked descriptor is not 0 (R86 to R88). -/
def rsvDirty (c : TileCfg) : Bool :=
  decide (field c 21 11 ≠ 0) || decide (field c 501 11 ≠ 0) || decide (field (cfgIn c) 28 4 ≠ 0)
    || decide (field (cfgOut c) 28 4 ≠ 0)
    || Port.all.any fun p => let d := cfgPort c p; decide (field d 26 6 ≠ 0) || (!portLinked d && decide (d ≠ 0))

/-- An undefined PARAM bit, or the timer field of a disabled function, is not 0 (R121, R142). -/
def paramDirty (c : TileCfg) : Bool :=
  decide (cfgParam c &&& ~~~(paramDefined (cfgPers c)) ≠ 0)
    || (decide (cfgPers c = .track) && !paramBit c 32 && decide (param c 16 16 ≠ 0))
    || (decide (cfgPers c = .auxlogic) && !paramBit c 168 && decide (param c 152 16 ≠ 0))

/-- The kinds of a port (R122). -/
inductive PortKind where
  | path | exit | cond | pair | doorsTrack | doorsSignal | plunger | aux | none
  deriving DecidableEq, Repr

/-- The kind of a port of a configuration. -/
def portKind (c : TileCfg) (p : Port) : PortKind :=
  match cfgPers c, p with
  | .track, .a | .track, .b | .signal, .a | .signal, .b | .point, .a | .point, .b | .point, .c => .path
  | .track, _ | .signal, _ => .cond
  | .point, .d => if paramBit c 33 then .pair else .cond
  | .doors, .a => .doorsTrack
  | .doors, _ => .doorsSignal
  | .buffer, .a | .boundary, .a => .exit
  | .plunger, _ => .plunger
  | .auxlogic, _ => .aux
  | _, _ => .none

/-- A port admits the far port (R122, R123). -/
def admits (c : TileCfg) (p : Port) (f : TileCfg) (q : Port) : Bool :=
  let fk := portKind f q
  match portKind c p with
  | .path => decide (fk = .path) || (decide (fk = .exit) && decide (cfgPers c = .track))
  | .exit => decide (fk = .path) && decide (cfgPers f = .track)
  | .cond => decide (cfgPers f = .doors ∨ cfgPers f = .plunger ∨ cfgPers f = .auxlogic)
  | .pair => true
  | .doorsTrack => decide (fk = .cond) && decide (cfgPers f = .track)
  | .doorsSignal => decide (fk = .cond) && decide (cfgPers f = .signal)
  | .plunger => decide (fk = .cond)
  | .aux => decide (fk = .cond) || decide (fk = .aux)
  | .none => false

/-- An asymmetric link (R84). -/
def CheckCtx.asymmetric (x : CheckCtx) (a : Elem) : Bool :=
  Port.all.any fun p => match x.far a p with
    | some (f, q) => !decide (x.far f q = some (a, p))
    | none => false

/-- A link that R123 does not permit. -/
def CheckCtx.badKind (x : CheckCtx) (a : Elem) : Bool :=
  Port.all.any fun p => match x.far a p with
    | some (f, q) => !(admits (x.cfg a) p (x.cfg f) q && admits (x.cfg f) q (x.cfg a) p)
    | none => false

/-- The cluster of an address. -/
def clusterOf (a : Elem) : Nat := (field a 4 8).toNat

/-- The linked ports of a region: address, descriptor. -/
def CheckCtx.regionLinks (x : CheckCtx) (r : Nat) : List (Elem × Port × Word) :=
  (List.range 256).flatMap fun i =>
    let a := BitVec.ofNat 12 (256 * r + i)
    (Port.all.map fun p => (a, p, cfgPort (x.cfg a) p)).filter fun e => portLinked e.2.2

/-- The tile's links exceed a limit of R83 and R84: an uplink or gateway used twice, or too many links that leave its cluster or its
region, by the address of the far tile. `links` are those of its region. -/
def limitBad (links : List (Elem × Port × Word)) (a : Elem) : Bool :=
  let up := links.filter fun e => decide (clusterOf e.1 = clusterOf a) && decide (clusterOf (portAddr e.2.2) ≠ clusterOf a)
  let out := links.filter fun e => decide (regionOf (portAddr e.2.2) ≠ regionOf a)
  let gw := links.filter fun e => portViaGw e.2.2
  let mine := fun (l : List (Elem × Port × Word)) => l.filter fun e => decide (e.1 = a)
  ((mine up).any fun e => decide (16 < up.length) ||
      decide (1 < (up.filter fun f => decide (portUplink f.2.2 = portUplink e.2.2)).length))
    || (decide (mine out ≠ []) && decide (64 < out.length))
    || ((mine gw).any fun e => decide (1 < (gw.filter fun f => decide (portGw f.2.2 = portGw e.2.2)).length))

/-- A binding breaks R88. -/
def bindBad (b : Word) : Bool :=
  let s := bindSrc b
  decide (s = 3) || (decide (s = 1) && (decide (bindSes b = 0) || decide (240 < (bindOfs b).toNat + bindBits b)))
    || (decide (s ≠ 1) && (decide (bindSes b ≠ 0) || decide (bindOfs b ≠ 0)))
    || (decide (s = 2) && (decide (bindPin b = 0) || decide (48 < (bindPin b).toNat)))
    || (decide (s ≠ 2) && decide (bindPin b ≠ 0))

/-- Bindings of a tile break R88, or an output binding stands where R129 gives none. -/
def bindsBad (c : TileCfg) : Bool :=
  bindBad (cfgIn c) || bindBad (cfgOut c)
    || (decide (cfgPers c = .track ∨ cfgPers c = .buffer) && decide (bindSrc (cfgOut c) ≠ 0))

/-- The input binding breaks R127. -/
def widthBad (c : TileCfg) : Bool :=
  let b := cfgIn c
  let n := if bindSrc b = 0 then 0 else bindBits b
  match cfgPers c with
  | .track => decide (n ≠ if paramBit c 33 then 3 else 2)
  | .point | .signal => decide (n ≠ 5)
  | .doors => decide (n ≠ 4)
  | .buffer => decide (n ≠ if paramBit c 0 then 1 else 0)
  | .boundary => decide (n ≠ 4) || decide (bindSrc b ≠ 1)
  | .plunger => decide (n ≠ 2)
  | _ => false

/-- MODE of a pin in the loaded pin map (R268). -/
def pinMode (d : StationData) (p : Nat) : BitVec 3 := field (d.pins.getD (p - 1) 0) 0 3

/-- Variables that the used terms of an AUXLOGIC name (R173). -/
def auxUsed (c : TileCfg) : BitVec 12 :=
  (List.range 6).foldl (fun m i => m ||| param c (24 * i) 12 ||| param c (24 * i + 12) 12) 0

/-- A chain of more than `n` AUXLOGIC tiles, linked through ports used as variables, starts at the tile (R139). -/
def CheckCtx.auxLonger (x : CheckCtx) : Nat → Elem → Bool
  | 0, a => decide (cfgPers (x.cfg a) = .auxlogic)
  | n + 1, a =>
    decide (cfgPers (x.cfg a) = .auxlogic) && Port.all.any fun p => bit (auxUsed (x.cfg a)) p.num &&
      match x.far a p with | some (f, _) => x.auxLonger n f | none => false

/-- A term names an unlinked port or an unbound input (R173). -/
def termBad (c : TileCfg) : Bool :=
  let u := auxUsed c
  decide (cfgPers c = .auxlogic) && ((Port.all.any fun p => bit u p.num && !cfgLinked c p)
    || (List.range 8).any fun i => bit u (4 + i) && decide (inWidth c ≤ i))

/-- A SIGNAL breaks R156. -/
def CheckCtx.aspectBad (x : CheckCtx) (c : TileCfg) : Bool :=
  let top := param c 0 3
  let stop := fun (k : Nat) => param c (16 + 6 * k) 3
  let go := fun (k : Nat) => param c (19 + 6 * k) 3
  decide (cfgPers c = .signal) && (((List.range 16).any fun k => decide (top < stop k) || decide (top < go k))
    || decide (param c 4 4 = 0)
    || (List.range (cfgRouteCnt c).toNat).any fun i =>
        let e := x.route ((cfgRouteFirst c).toNat + i)
        let k := (rtClass e).toNat
        rtValid e && (decide (stop k = 0) || decide (go k = 0)))

/-- PARAM codes that are refused (reason PARAM_CODE). -/
def codeBad (c : TileCfg) : Bool :=
  match cfgPers c with
  | .signal => decide (param c 0 3 = 0)
  | .doors => bit (param c 16 2) 1
  | .plunger => decide (param c 0 2 = 3) || (decide (param c 0 2 = 2) && paramBit c 2)
  | _ => false

/-- An enabled timer field holds 0 (R142). -/
def timerZero (c : TileCfg) : Bool :=
  match cfgPers c with
  | .track => decide (param c 0 16 = 0) || (paramBit c 32 && decide (param c 16 16 = 0))
  | .point => decide (param c 0 16 = 0) || decide (param c 16 16 = 0)
  | .doors => decide (param c 0 16 = 0)
  | .auxlogic => paramBit c 168 && decide (param c 152 16 = 0)
  | _ => false

/-- A coupled POINT without its partner on port D (reason COUPLED). -/
def CheckCtx.coupledBad (x : CheckCtx) (a : Elem) : Bool :=
  let c := x.cfg a
  decide (cfgPers c = .point) && paramBit c 33 && match x.far a .d with
    | some (f, q) => !(decide (q = .d) && decide (cfgPers (x.cfg f) = .point) && paramBit (x.cfg f) 33)
    | none => true

/-- Platform TRACK and DOORS do not meet (reason DOORS_LINK). -/
def CheckCtx.doorsBad (x : CheckCtx) (a : Elem) : Bool :=
  let c := x.cfg a
  let pers := fun (p : Port) => (x.far a p).map fun e => cfgPers (x.cfg e.1)
  (decide (cfgPers c = .track) && paramBit c 32 && !decide (pers .c = some .doors) && !decide (pers .d = some .doors))
    || (decide (cfgPers c = .doors) && match x.far a .a with
        | some (f, _) => !(decide (cfgPers (x.cfg f) = .track) && paramBit (x.cfg f) 32)
        | none => true)

/-- The outputs that an output binding drives, each by its first pin (R125). -/
def drivenPins (d : StationData) (b : Word) : List Nat :=
  let p := (bindPin b).toNat
  (List.range (bindBits b)).map fun i => p + (if singleEnded d p then i else 2 * i)

/-- The tests of a tiles slice (R280). -/
def CheckCtx.tileTests (x : CheckCtx) (r : Nat) : List Test :=
  let elems := (List.range 256).map fun i => 256 * r + i
  let on := fun (bad : Elem → Elem → TileCfg → Bool) (_ : Unit) => elems.filter fun n =>
    let e := BitVec.ofNat 12 n
    let a := x.addr e
    bad e a (x.cfg a)
  let links := x.regionLinks r
  [(0x10, on fun _ _ c => decide (9 ≤ (cfgPersCode c).toNat)),
   (0x11, on fun _ _ c => decide (cfgFmt c ≠ 1)),
   (0x12, on fun e _ c => decide (cfgElem c ≠ e)),
   (0x13, on fun _ _ c => cfgSpare c && decide (cfgPersCode c ≠ 0)),
   (0x14, on fun _ _ c => emptyDirty c),
   (0x15, on fun _ _ c => rsvDirty c),
   (0x16, on fun _ _ c => paramDirty c),
   (0x17, on fun _ _ c => decide (cfgRouteCnt c ≠ 0) && decide (cfgPers c ≠ .signal)),
   (0x18, on fun _ a _ => x.asymmetric a),
   (0x19, on fun _ a _ => x.badKind a),
   (0x1A, on fun _ a _ => limitBad (if regionOf a = r then links else x.regionLinks (regionOf a)) a),
   (0x1B, on fun _ _ c => bindsBad c),
   (0x1C, on fun _ _ c => widthBad c),
   (0x1D, on fun _ _ c => decide (bindSrc (cfgOut c) = 2) && decide (cfgPers c ≠ .plunger)
      && (drivenPins x.lane.data (cfgOut c)).any (singleEnded x.lane.data)),
   (0x1E, on fun _ a _ => x.auxLonger 32 a),
   (0x1F, on fun _ _ c => termBad c),
   (0x20, on fun _ _ c => x.aspectBad c),
   (0x21, on fun _ _ c => codeBad c),
   (0x22, on fun _ _ c => timerZero c),
   (0x23, on fun _ a _ => x.coupledBad a),
   (0x24, on fun _ a _ => x.doorsBad a)]

/-! ### Route slices -/

/-- The onward ports in NEW mode by geography (R194). -/
def onwardNew (c : TileCfg) (p : Port) : List Port :=
  match cfgPers c, p with
  | .track, .a => [.b]
  | .track, .b => [.a]
  | .point, .a => [.b, .c]
  | .point, .b | .point, .c => [.a]
  | .signal, .b => [.a]
  | _, _ => []

/-- An end tile for a token that arrives on the port (R194). -/
def endTile (c : TileCfg) (p : Port) : Bool :=
  decide (p = .a) && decide (cfgPers c = .signal ∨ cfgPers c = .buffer ∨ cfgPers c = .boundary)

/-- The paths from port `p` of the tile at `a` to the exit of a route, over at most `n` links: the tiles between, each with the
ports of arrival and departure. `v`: the via tile has been passed. -/
def CheckCtx.paths (x : CheckCtx) (e : Quad) : Nat → Elem → Port → Bool → List Elem → List (List (Elem × Port × Port))
  | 0, _, _, _, _ => []
  | n + 1, a, p, v, seen =>
    match x.far a p with
    | none => []
    | some (f, q) =>
      let c := x.cfg f
      if endTile c q then (if cfgElem c = rtExit e ∧ (v ∨ ¬ rtViaEn e) then [[]] else [])
      else if seen.contains f then []
      else
        (onwardNew c q).flatMap fun o =>
          (x.paths e n f o (v || (rtViaEn e && decide (cfgElem c = rtVia e))) (f :: seen)).map fun l => (f, q, o) :: l

/-- All paths of a route. -/
def CheckCtx.pathsOf (x : CheckCtx) (e : Quad) : List (List (Elem × Port × Port)) :=
  let a := x.addr (rtEntry e)
  x.paths e 255 a .b false [a]

/-- FACING and FACING_CNT of a path: bit i the position of facing point i (R179). -/
def CheckCtx.facing (x : CheckCtx) (l : List (Elem × Port × Port)) : List Bool :=
  (l.filter fun t => decide (cfgPers (x.cfg t.1) = .point) && decide (t.2.1 = .a)).map fun t => decide (t.2.2 = .c)

/-- The path is not unique or does not match the entry, which can name 16 facing points (reason ROUTE_PATH, R177, R179). -/
def CheckCtx.pathBad (x : CheckCtx) (e : Quad) : Bool :=
  match x.pathsOf e with
  | [l] =>
    let f := x.facing l
    !(decide (l.length = (rtPathLen e).toNat) && decide (1 ≤ l.length) && decide (f.length = (rtFacingCnt e).toNat) && decide (f.length ≤ 16)
      && (List.range 16).all fun i => bit (rtFacing e) i == f.getD i false)
  | _ => true

/-- Flank protection is found from a port within `n` tiles by geography alone (R179, R200). -/
def CheckCtx.flankFound (x : CheckCtx) : Nat → Elem → Port → Bool
  | 0, _, _ => false
  | n + 1, a, p =>
    match x.far a p with
    | none => false
    | some (f, q) =>
      match cfgPers (x.cfg f), q with
      | .point, .b | .point, .c | .signal, .b => true
      | .buffer, _ => true
      | .track, .a => x.flankFound n f .b
      | .track, .b => x.flankFound n f .a
      | .signal, .a => x.flankFound n f .b
      | _, _ => false

/-- A point of the path finds no flank protection (reason ROUTE_FLANK). -/
def CheckCtx.flankBad (x : CheckCtx) (e : Quad) : Bool :=
  rtFlank e && match x.pathsOf e with
    | l :: _ => l.any fun t => decide (cfgPers (x.cfg t.1) = .point) &&
        (let heel := if t.2.1 = .a then t.2.2 else t.2.1
         !x.flankFound 3 t.1 (if heel = .b then .c else .b))
    | [] => false

/-- A SIGNAL has the route as an own route. -/
def CheckCtx.owned (x : CheckCtx) (r : Nat) : Bool := x.all.any fun e => isOwn e.2 (BitVec.ofNat 13 r)

/-- ROUTE_COUNT that applies to the planes under check. -/
def CheckCtx.routeCount (x : CheckCtx) : Nat :=
  match x.staged with
  | some i => (manRouteCount i.manifest).toNat
  | none => x.lane.data.routeCount.toNat

/-- The route timer table that applies. -/
def CheckCtx.timer (x : CheckCtx) (i : BitVec 6) : BitVec 16 :=
  match x.staged with
  | some g => (numbers 16 2 ((imageSect g 3 0).getD [])).getD i.toNat 0
  | none => x.lane.timer i

/-- The tests of a routes slice (R276, R280). -/
def CheckCtx.routeTests (x : CheckCtx) (k : Nat) : List Test :=
  let ids := (List.range 256).map fun i => 256 * k + i
  let on := fun (bad : Nat → Quad → Bool) (_ : Unit) => ids.filter fun r => bad r (x.route r)
  let valid := fun (bad : Nat → Quad → Bool) => on fun r e => rtValid e && bad r e
  let pers := fun (e : Elem) => cfgPers (x.tile e)
  let whole : List Test := if k = 31 then
      [(0x30, fun _ => fact (decide (((List.range 8192).filter fun r => rtValid (x.route r)).length ≠ x.routeCount)) 0),
       (0x31, fun _ => fact (decide (x.routeCount = 0) && x.all.any fun e =>
          decide (cfgPers e.2 = .signal) && decide (cfgRouteCnt e.2 ≠ 0)) 0)]
    else []
  whole ++
  ([(0x32, on fun r e => if rtValid e then !isOwn (x.tile (rtEntry e)) (BitVec.ofNat 13 r) else x.owned r),
   (0x33, valid fun _ e => decide (pers (rtEntry e) = .empty) || decide (pers (rtExit e) = .empty)
      || (rtViaEn e && decide (pers (rtVia e) = .empty))),
   (0x34, valid fun _ e => !decide (pers (rtExit e) = .signal ∨ pers (rtExit e) = .buffer ∨ pers (rtExit e) = .boundary)),
   (0x35, valid fun _ e => (decide (rtOvlLen e ≠ 0) && (decide (pers (rtExit e) = .buffer ∨ pers (rtExit e) = .boundary)
      || (decide (pers (rtExit e) = .signal) && !cfgLinked (x.tile (rtExit e)) .b))) || bit (rtOvlClass e) 1),
   (0x36, valid fun _ e => rtDoorDep e &&
      (let a := x.addr (rtEntry e)
       !([Port.c, Port.d].any fun p => match x.far a p with
          | some (f, _) => decide (cfgPers (x.cfg f) = .doors)
          | none => false))),
   (0x37, valid fun _ e => decide (x.timer (rtApprIdx e) = 0) || decide (x.timer (rtErlIdx e) = 0)),
   (0x38, on fun _ e => bit e 37 || decide (field e 89 38 ≠ 0)),
   (0x39, valid fun _ e => x.pathBad e),
   (0x3A, valid fun _ e => x.flankBad e)] : List Test)

/-! ### Call sheet slices (R319 to R322) -/

/-- SLOT of a call sheet entry. -/
def csSlot (e : BitVec 64) : BitVec 12 := field e 52 12
/-- KIND. -/
def csKind (e : BitVec 64) : BitVec 4 := field e 48 4
/-- SMODE. -/
def csSmode (e : BitVec 64) : BitVec 2 := field e 46 2
/-- SENDER. -/
def csSender (e : BitVec 64) : BitVec 12 := field e 34 12
/-- DMODE. -/
def csDmode (e : BitVec 64) : Bool := bit e 33
/-- DEST. -/
def csDest (e : BitVec 64) : BitVec 12 := field e 21 12
/-- SES_ID. -/
def csSes (e : BitVec 64) : SesId := field e 12 9

/-- KIND of a session-table entry (R267). -/
def sesKind (e : BitVec 64) : BitVec 2 := field e 9 2
/-- PEER. -/
def sesPeer (e : BitVec 64) : NodeId := field e 11 12
/-- FRESH. -/
def sesFresh (e : BitVec 64) : BitVec 8 := field e 23 8
/-- CMD_SLOT. -/
def sesCmdSlot (e : BitVec 64) : BitVec 12 := field e 31 12
/-- RSP_SLOT. -/
def sesRspSlot (e : BitVec 64) : BitVec 12 := field e 43 12
/-- EN_AT_VITAL. -/
def sesAtVital (e : BitVec 64) : Bool := bit e 55

/-- The table entry of a session. -/
def sesEntry (d : StationData) (n : SesId) : BitVec 64 := if n = 0 then 0 else d.sessions.getD (n.toNat - 1) 0

/-- The session's KIND is boundary. -/
def sesBoundary (d : StationData) (n : SesId) : Bool := decide (sesKind (sesEntry d n) = 2)

/-- The fixed allocation of a slot as (KIND, SMODE, SENDER, DMODE, DEST) (R321). -/
def fixedSlot (s : Nat) : Option (BitVec 4 × BitVec 2 × BitVec 12 × Bool × BitVec 12) :=
  if s = 0 then some (1, 2, 1, false, 0xFFF)
  else if s = 1 then some (2, 2, 2, false, 0xFFF)
  else if s = 2 then some (2, 2, 3, false, 0xFFF)
  else if 2704 ≤ s ∧ s ≤ 2735 then some (6, 2, 1, true, 2)
  else if 2736 ≤ s ∧ s ≤ 2767 then some (6, 2, 2, true, 1)
  else if 2768 ≤ s ∧ s ≤ 2775 then some (7, 2, 3, false, 0xFFF)
  else if 2776 ≤ s ∧ s ≤ 2779 then some (7, 2, 1, true, 3)
  else if 2780 ≤ s ∧ s ≤ 2783 then some (7, 2, 2, true, 3)
  else none

/-- The slots of R321 that every call sheet allocates. -/
def fixedSlots : List Nat := (List.range 4096).filter fun s => (fixedSlot s).isSome

/-- A used entry stands where R321 does not place it. -/
def misplaced (d : StationData) (e : BitVec 64) : Bool :=
  let s := (csSlot e).toNat
  let k := csKind e
  let ses := decide (k = 4 ∨ k = 5)
  match fixedSlot s with
  | some f => !decide ((k, csSmode e, csSender e, csDmode e, csDest e) = f)
  | none =>
    if 2784 ≤ s ∧ s ≤ 2911 then
      !(((decide (k = 4) && decide (csSmode e = 3)) || (decide (k = 5) && decide (csSmode e = 1))) && sesBoundary d (csSes e))
    else if 3584 ≤ s then !(decide (k = 8) && decide (csSmode e = 1))
    else decide (k = 1 ∨ k = 2 ∨ k = 3 ∨ k = 6 ∨ k = 7 ∨ k = 8) || (ses && sesBoundary d (csSes e))

/-- A node identifier (R312). -/
def isNode (n : BitVec 12) : Bool := decide (1 ≤ n.toNat ∧ n.toNat ≤ 4094)

/-- A session's entry has the SMODE, DMODE, DEST and SENDER that R322 gives it. -/
def sesEntryFits (d : StationData) (e : BitVec 64) : Bool :=
  let peer := sesPeer (sesEntry d (csSes e))
  !csDmode e && (if csKind e = 4 then decide (csSmode e = 3 ∧ csDest e = peer)
    else decide (csSmode e = 1 ∧ csSender e = peer ∧ csDest e = 0xFFF))

/-- A session's entry in a slot that its table entry does not name (R322). -/
def extraEntry (d : StationData) (e : BitVec 64) : Bool :=
  let t := sesEntry d (csSes e)
  (decide (csKind e = 4) && decide (csSlot e ≠ sesCmdSlot t)) || (decide (csKind e = 5) && decide (csSlot e ≠ sesRspSlot t))

/-- A used entry holds a reserved code or bit (reason CS_FORMAT). An entry that a session has beside those of its table entry and
that is not as R322 gives it counts here too: R322 says that the check finds it and names four reasons for all its rules. DESIGN
CHOICE (log 115). -/
def formatBad (d : StationData) (e : BitVec 64) : Bool :=
  let k := csKind e
  let ses := decide (k = 4 ∨ k = 5)
  decide (k = 0) || decide (8 < k.toNat) || decide (csSmode e = 0) || (decide (csSmode e = 1) && !isNode (csSender e))
    || (decide (csSmode e = 2) && (decide (csSender e = 0) || decide (3 < (csSender e).toNat)))
    || (decide (csSmode e = 3) && decide (csSender e ≠ 0))
    || (csDmode e && (decide (csDest e = 0) || decide (3 < (csDest e).toNat)))
    || (!csDmode e && decide (csDest e = 0)) || !(ses == decide (csSes e ≠ 0)) || decide (field e 0 12 ≠ 0)
    || (extraEntry d e && !sesEntryFits d e)

/-- The lowest of some slots. -/
def lowestSlot (l : List Nat) : List Nat :=
  match l with
  | [] => []
  | a :: t => [t.foldl min a]

/-- The tests of a call sheet slice. -/
def CheckCtx.sheetTests (x : CheckCtx) (k : Nat) : List Test :=
  let d := x.lane.data
  let used := d.callSheet.filter fun e => decide (e ≠ 0)
  let mine := ((d.callSheet.drop (512 * k)).take 512).filter fun e => decide (e ≠ 0)
  let slots := fun (l : List (BitVec 64)) => lowestSlot (l.map fun e => (csSlot e).toNat)
  ([(0x40, fun _ => slots (mine.filter fun e => decide (1 < (used.filter fun f => decide (csSlot f = csSlot e)).length)))] : List Test)
    ++ (if k = 7 then
      ([(0x41, fun _ => lowestSlot (((used.filter (misplaced d)).map fun e => (csSlot e).toNat)
          ++ fixedSlots.filter fun s => !used.any fun e => decide ((csSlot e).toNat = s)))] : List Test) else [])
    ++ ([(0x42, fun _ => slots (mine.filter (formatBad d)))] : List Test)

/-! ### Session slice -/

/-- The call sheet assigns a slot to a session in one direction (R322). -/
def slotAssigned (d : StationData) (n : SesId) (cmd : Bool) : Bool :=
  let t := sesEntry d n
  d.callSheet.any fun e =>
    decide (csSes e = n) && sesEntryFits d e &&
      (if cmd then decide (csSlot e = sesCmdSlot t ∧ csKind e = 4) else decide (csSlot e = sesRspSlot t ∧ csKind e = 5))

/-- Session bindings of all tiles: personality, direction (true = output) and binding. -/
def CheckCtx.sesBinds (x : CheckCtx) : List (Pers × Bool × Word) :=
  x.all.flatMap fun e =>
    [(cfgPers e.2, false, cfgIn e.2), (cfgPers e.2, true, cfgOut e.2)].filter fun b => decide (bindSrc b.2.2 = 1)

/-- The element data bits that the bindings of a session use in one direction, with repeats. -/
def bitsUsed (l : List (Pers × Bool × Word)) (n : SesId) (out : Bool) : List Nat :=
  (l.filter fun b => decide (b.2.1 = out) && decide (bindSes b.2.2 = n)).flatMap fun b =>
    (List.range (bindBits b.2.2)).map fun i => (bindOfs b.2.2).toNat + i

/-- The tests of the session slice; `vital` for the module vital enable. -/
def CheckCtx.sessionTests (x : CheckCtx) (vital : Bool) : List Test :=
  let d := x.lane.data
  let ids := (List.range 511).map (· + 1)
  let on := fun (bad : SesId → BitVec 64 → Bool) (_ : Unit) => ids.filter fun n =>
    bad (BitVec.ofNat 9 n) (sesEntry d (BitVec.ofNat 9 n))
  let used := fun (bad : SesId → BitVec 64 → Bool) => on fun n e => decide (sesKind e ≠ 0) && bad n e
  let binds := x.sesBinds
  [(0x50, used fun _ e => decide (field e 0 9 = 0#9)),
   (0x51, used fun n e => decide (field e 0 9 ≠ n) || decide (sesKind e = 3)),
   (0x52, used fun n _ => !(slotAssigned d n true && slotAssigned d n false)),
   (0x53, used fun _ e => decide (sesFresh e = 0)),
   (0x54, fun _ => (List.range 512).filter fun i =>
      let n := BitVec.ofNat 9 i
      let e := sesEntry d n
      binds.any fun b => decide (bindSes b.2.2 = n) &&
        (decide (sesKind e = 0) || !(decide (b.1 = .boundary) == decide (sesKind e = 2)))),
   (0x55, fun _ => fact (vital && decide (d.sesCount = 0)) 0),
   (0x56, on fun n _ => !(decide (bitsUsed binds n false).Nodup && decide (bitsUsed binds n true).Nodup)),
   (0x57, on fun _ e => decide (field e 56 8 ≠ 0))]

/-! ### Pins slice -/

/-- The pin is an input (R268). -/
def pinInput (d : StationData) (p : Nat) : Bool := decide (pinMode d p = 1 ∨ pinMode d p = 2)

/-- The tests of a pins slice. -/
def CheckCtx.pinTests (x : CheckCtx) (g : Option Nat) : List Test :=
  let d := x.lane.data
  let pins : List Nat := match g with
    | none => (List.range 63).map (· + 1)
    | some g => if g = 0 then [] else (List.range 8).map fun i => 8 * g - 7 + i
  let on := fun (bad : Nat → Word → Bool) (_ : Unit) => pins.filter fun p => bad p (d.pins.getD (p - 1) 0)
  let ins := x.all.flatMap fun e => if bindSrc (cfgIn e.2) = 2 then
    (List.range (bindBits (cfgIn e.2))).map fun i => (bindPin (cfgIn e.2)).toNat + i else []
  let outs := x.all.flatMap fun e => if bindSrc (cfgOut e.2) = 2 then drivenPins d (cfgOut e.2) else []
  let mode := pinMode d
  [(0x60, on fun p _ => decide (mode p = 6 ∨ mode p = 7)),
   (0x61, on fun p _ => (decide (mode p = 4) && (decide (p % 2 = 0) || decide (mode (p + 1) ≠ 5)))
      || (decide (mode p = 5) && (decide (p % 2 = 1) || decide (mode (p - 1) ≠ 4)))),
   (0x62, on fun p e =>
      let n := field e 3 8
      let t := field e 11 8
      if pinInput d p then decide (n = 0#8 ∨ t = 0#8) else decide (n ≠ 0#8 ∨ t ≠ 0#8)),
   (0x63, on fun p e => (bit e 19 && (!pinInput d p || decide (8 < p))) || (bit e 20 && !bit e 19)),
   (0x64, on fun p _ => (ins.contains p && !pinInput d p)
      || (outs.contains p && (!decide (mode p = 3 ∨ mode p = 4) || decide (1 < outs.count p)))),
   (0x65, on fun p e => decide (field e 21 11 ≠ 0) || decide (field (d.groups.getD ((p - 1) / 8) 0) 1 31 ≠ 0))]

/-! ### Global slice -/

/-- The take figures (R26, R39, R262). -/
def globalTests (m : Bytes) : List Test :=
  let n := (manNCfg m).toNat
  let s := (manSImg m).toNat
  let a := n * 10240 - 3540
  [(0x70, fun _ => fact (!decide (2 ≤ n ∧ n ≤ (manNMax m).toNat ∧ (manNMax m).toNat ≤ 48)) 0),
   (0x71, fun _ => fact (decide (s = 0) || decide (3800 < s) || decide (1000 * (a - s) / a < 700)) 0),
   (0x72, fun _ => fact (decide (600 < (manWarmAge m).toNat)) 0)]

/-! ### Slices and checks -/

/-- The first failing test of a slice. -/
def CheckCtx.slice (x : CheckCtx) (scope : BitVec 3) (set : BitVec 16) (k : Slice) : Option (Byte × BitVec 16) :=
  firstFail (match k with
    | .image => (match x.staged with | some i => x.imageStaged i set | none => x.imageActive)
    | .tiles r => x.tileTests r
    | .routes i => x.routeTests i
    | .callSheet i => x.sheetTests i
    | .sessions => x.sessionTests (decide (scope = 0))
    | .pins g => x.pinTests g
    | .global => globalTests (newestManifest x.chain))

/-- What a check of a lane reads: the shadow planes of the set for a splice commit, the active planes otherwise (R274). -/
def Lane.checkCtx (l : Lane) (id : LaneId) (c : Check) (chain : List Image) (staged : Option Image) (relocated : Bool) : CheckCtx :=
  let splice := decide (c.scope = 2)
  { id := id, lane := l, shadow := if splice then c.set else 0,
    rt := if splice then !l.vit.reg.rtActive else l.vit.reg.rtActive, chain := chain,
    staged := if splice then staged else none, relocated := relocated }

/-- The lane is in idle time (R36): between P5 quiescence and X, or between P6 quiescence and D. -/
def Lane.idle (l : Lane) : Bool := decide (l.fab.phase = .p5 ∨ l.fab.phase = .p6) && l.fab.quiet && !l.fab.stuck

/-- The slice of the running check that belongs to take `take` has not run (R275): slice i of a check that starts in take k belongs to
take k + i. -/
def Check.lags (c : Check) (take : Word) : Bool :=
  let d := (take - c.start).toNat
  c.result.isNone && decide (d < 2 ^ 31 ∧ c.slice ≤ d)

/-- One slice of the running check in its take (R273, R275, R276). A check over shadow planes without its staged image cannot be made
and fails with SHADOW_INVALID. -/
def Lane.checkSlice (l : Lane) (id : LaneId) (chain : List Image) (staged : Option Image) (relocated : Bool) : Lane :=
  match l.check with
  | none => l
  | some c =>
    if ¬ c.lags l.vit.hdr.takeNum then l
    else
      let ks := slicesOf c.scope c.item c.set
      let x := l.checkCtx id c chain staged relocated
      let r := match ks[c.slice]? with
        | some k => if c.scope = 2 ∧ staged = none then some (0x0E, 0) else x.slice c.scope c.set k
        | none => none
      let last := decide (ks.length ≤ c.slice + 1)
      { l with check := some { c with slice := c.slice + 1,
                                      result := match r with | some e => some e | none => if last then some (0, 0) else none } }

/-- The check of VERIFY (R473, R396): every slice back to back. -/
def Lane.verifyCheck (l : Lane) (id : LaneId) (chain : List Image) : Option (Byte × BitVec 16) :=
  let witness := decide (manKind (newestManifest chain) = 4)
  let c : Check := { scope := 0, item := 0, set := 0, slice := 0, start := 0, seq := 0, result := none }
  let x := l.checkCtx id c chain none false
  let ks := if witness then .image :: (List.range 8).map Slice.callSheet else slicesOf 0 0 0
  ks.findSome? fun k => x.slice 0 0 k

/-! ### The end of a check -/

/-- The receive path's record of a session, without frame (R362, R364). -/
def RxSes.empty (n : SesId) : RxSes :=
  { ses := n, frame := none, next := none, seed := none, ever := false, ahead := false, sent := none, acked := false, rxOk := 0, codeErr := 0,
    wordErr := 0, seqErr := 0, ackMiss := 0, stale := 0 }

/-- The record of a session without frame (R364, R369). -/
def SesRec.empty (n : SesId) : SesRec :=
  { ses := n, enabled := false, fresh := false, ever := false, claimAhead := false, diff := false, timeout := false, age := 255,
    rxRound := 0, echo := 0, rxClaim := 0, txTake := 0, txClaim := 0, force := false, paired := false, sending := false }

/-- The record of a session in a list. -/
def sesRecOf (l : List SesRec) (n : SesId) : SesRec := (l.find? fun r => decide (r.ses = n)).getD (SesRec.empty n)

/-- A record takes its place by session identifier. -/
def sesInsert (r : SesRec) : List SesRec → List SesRec
  | [] => [r]
  | q :: l => if r.ses.toNat < q.ses.toNat then r :: q :: l else if r.ses = q.ses then r :: l else q :: sesInsert r l

/-- The receive record of a session. -/
def rxOf (l : List RxSes) (n : SesId) : RxSes := (l.find? fun r => decide (r.ses = n)).getD (RxSes.empty n)

/-- A receive record takes its place by session identifier. -/
def rxInsert (r : RxSes) : List RxSes → List RxSes
  | [] => [r]
  | q :: l => if r.ses.toNat < q.ses.toNat then r :: q :: l else if r.ses = q.ses then r :: l else q :: rxInsert r l

/-- A blocking acts on a tile bound to a session (R357). -/
def Lane.blocked (l : Lane) (n : SesId) : Bool :=
  l.vit.force.any fun e =>
    decide (e.type = 3 ∨ e.type = 4 ∨ e.type = 5) &&
      match tileOf l.fab.tiles e.target with
      | some t =>
        (decide (bindSrc (cfgIn t.cfg) = 1) && decide (bindSes (cfgIn t.cfg) = n))
          || (decide (bindSrc (cfgOut t.cfg) = 1) && decide (bindSes (cfgOut t.cfg) = n))
      | none => false

/-- What L has fixed for the command telegrams of the next take (R358, R369). -/
structure TxFlags where
  comm    : Bool
  paired  : Bool
  sending : Bool

/-- A session is enabled (R272): it is stale until its first frame has passed R361 (R364), so that it holds no frame. A session
without a used table entry sets nothing. -/
def Lane.sessionOn (l : Lane) (n : SesId) : Lane :=
  if sesKind (sesEntry l.data n) = 1 ∨ sesKind (sesEntry l.data n) = 2 then
    let l := l.onVit fun v =>
      { v with ses := sesInsert { sesRecOf v.ses n with enabled := true, fresh := false, ever := false, age := 255 } v.ses }
    let r := rxOf l.rx n
    { l with rx := rxInsert { r with frame := none, next := none, seed := none, ever := false } l.rx }
  else l

/-- The telegrams of a session enabled at D go out from the next take on (R357): with the payload that the finished latch gives it
(R358), and the TX fields that L has fixed. -/
def Lane.sessionSends (l : Lane) (tx : TxFlags) (n : SesId) : Lane :=
  if (sesRecOf l.vit.ses n).enabled then
    let l := l.onVit fun v =>
      { v with ses := sesInsert { sesRecOf v.ses n with
          txTake := v.hdr.takeNum, txClaim := v.hdr.claim, force := tx.comm || l.blocked n, paired := tx.paired, sending := tx.sending } v.ses }
    l.onVit fun v => { v with latch := { v.latch with
      payloads := (p6Latch l).payloads.filterMap fun p =>
        if p.ses = n then some p else v.latch.payloads.find? fun q => decide (q.ses = p.ses) } }
  else l

/-- REGION_EN sets (R272, R301): a region outside a splice in hand is no longer held restrictive. -/
def Lane.regionOn (l : Lane) (r : Nat) : Lane :=
  let l := l.onReg fun g =>
    { g with
      regEn := setBit g.regEn r true
      regRestrict := if g.stage ≠ .none ∧ bit g.spliceSet r then g.regRestrict else setBit g.regRestrict r false }
  { l with disabled := setBit l.disabled r false }

/-- A finished check is latched in the boundary work (R275, R277, R279): a passed check sets its enable, or moves a splice on
(R292); a failed splice check drops the shadow (R291). -/
def Lane.latchCheck (l : Lane) (tx : TxFlags) : Lane :=
  match l.check with
  | none => l
  | some c =>
    match c.result with
    | none => l
    | some (code, item) =>
      let l := ({ l with check := none }).reason c.seq code c.scope item
      if code ≠ 0 then (if c.scope = 2 ∧ l.vit.reg.stage = .loading then l.spliceFail c.seq else l)
      else if c.scope = 1 then l.regionOn c.item.toNat
      else if c.scope = 3 then (l.sessionOn (field c.item 0 9)).sessionSends tx (field c.item 0 9)
      else if c.scope = 4 then
        (if 1 ≤ c.item.toNat ∧ c.item.toNat ≤ 6 then l.onReg fun g => { g with grpEn := setBit g.grpEn (c.item.toNat - 1) true }
         else l)
      else if c.scope = 2 then
        l.onReg fun g =>
          { g with shadow := g.shadow ||| c.set, rtShadow := true,
                   stage := if g.stage = .loading then (if g.sched then .scheduled else .checked) else g.stage }
      else l

end Sys2Proof.Machine
end

