-- ==== Sys2Proof/Machine/Rushes.lean ====
section
/-! DEFINITION. P0 (R27 to R31): what the rushes latch in a lane (R180, R363, R364, R434, R449, R545, R646), what applied
commands ask of the module, and the meanings of RUSHES and of the commands that act within P0. -/

namespace Sys2Proof.Machine

open Sys2Proof

/-! ### The inputs of the take -/

/-- A fault code that restricts its pin (R453). -/
def faultRestricts (c : BitVec 4) : Bool := decide (c ≠ 0) && decide (c ≠ 9)

/-- Input pins bound by tiles whose output channel carries a restricting fault code (R449). -/
def Lane.dependents (l : Lane) (bad : BitVec 48) : BitVec 48 :=
  l.fab.tiles.foldl (fun m t =>
    let i := cfgIn t.cfg
    let o := cfgOut t.cfg
    if bindSrc i = 2 ∧ bindSrc o = 2 ∧ (drivenPins l.data o).any (fun p => bit bad (p - 1)) then
      (List.range (bindBits i)).foldl (fun m k => setBit m ((bindPin i).toNat + k - 1) true) m
    else m) 0

/-- The restriction mask of R434. -/
def Lane.restrictMask (l : Lane) (f : FioSt) : BitVec 48 :=
  if ¬ l.snap then BitVec.allOnes 48
  else
    let bad := pinMask f fun p => faultRestricts p.snapFault
    pinMask f (fun p => p.snapX != p.snapY) ||| bad
      ||| groupMask f (fun g x => x.snapSag || !bit l.vit.reg.grpEn (g - 1)) ||| l.dependents bad

/-- The field part of the rushes (R433, R434). -/
def Lane.latchField (l : Lane) (f : FioSt) : Lane :=
  l.onVit fun v => { v with inputs := { v.inputs with inX := pinMask f (·.snapX), rmask := l.restrictMask f } }

/-- The age of a session at P0 (R364). -/
def sesAge (first : BitVec 40) (f : Option RxFrame) : Byte :=
  match f with
  | none => 255
  | some x => satNat 8 (first.toNat - x.round.toNat)

/-- The session record that P0 latches (R364, R369); without a frame its RX fields are 0 (DEDUCED, log 21). -/
def latchSes (d : StationData) (first : BitVec 40) (x : RxSes) (r : SesRec) : SesRec :=
  if ¬ r.enabled then { r with fresh := false }
  else
    let age := sesAge first x.frame
    { r with
      fresh := x.frame.isSome && decide (age.toNat < (sesFresh (sesEntry d r.ses)).toNat)
      ever := x.ever, claimAhead := x.ahead, age := age
      diff := (x.frame.map (·.diff)).getD false, timeout := (x.frame.map (·.timeout)).getD false
      rxRound := (x.frame.map (·.round)).getD 0, echo := (x.frame.map (·.echo)).getD 0
      rxClaim := (x.frame.map (·.claim)).getD 0 }

/-- Session freshness (R364): records, element data of fresh sessions, counts of stale takes; a frame stamped at or after slot
16 then stands for the next take (R363). -/
def Lane.latchSessions (l : Lane) : Lane :=
  let ses := l.vit.ses.map fun r => latchSes l.data l.vit.hdr.start.round (rxOf l.rx r.ses) r
  let l := l.onVit fun v =>
    { v with
      ses := ses
      inputs := { v.inputs with sesIn := ses.filterMap fun r =>
        if r.enabled ∧ r.fresh then (rxOf l.rx r.ses).frame.map fun f => (r.ses, f.elem) else none } }
  { l with rx := l.rx.map fun x =>
      let r := sesRecOf ses x.ses
      let x := if r.enabled ∧ ¬ r.fresh then { x with stale := satInc x.stale } else x
      match x.next with
      | some f => { x with frame := some f, next := none }
      | none => x }

/-- Enabled sessions that are stale. -/
def staleCount (l : List SesRec) : Nat := (l.filter fun r => r.enabled && !r.fresh).length

/-- The lane clears what belongs to the take (R185, R193, R279): wave registers, latches and marks, measured times, outcomes,
rushes. -/
def Lane.clearTake (l : Lane) : Lane :=
  let l := l.onFab fun f =>
    { f with
      tiles := f.tiles.map fun t => { t with wr := WaveReg.clear, out := Four.rep tokNone, queue := Four.rep [] }
      latches := [], exits := [], vias := [], calls := [], admitted := [], cancels := [], taken := 0, durs := [],
      regionNs := [], settleNs := 0, stuck := false }
  l.onVit fun v =>
    { v with outcomes := [],
             inputs := { inX := 0, rmask := 0, sesIn := [], release := [], close := [], reset := [] } }

/-- The check of a splice starts in the first take after loading in which the lane runs no other check (R291, R278). -/
def Lane.startSpliceCheck (l : Lane) : Lane :=
  let g := l.vit.reg
  if g.stage = .loading ∧ loadTakes g.spliceSet ≤ l.mem.loaded ∧ l.check.isNone then
    { l with check := some { scope := 2, item := 0, set := g.spliceSet, slice := 0, start := l.vit.hdr.takeNum, seq := 0, result := none } }
  else l

/-- The check of a service load starts in the lane (R525). -/
def Lane.startServiceCheck (l : Lane) : Lane :=
  { l with check := some { scope := 2, item := 0, set := 0xFFFF, slice := 0, start := l.vit.hdr.takeNum, seq := 0, result := none } }

/-- A route command that came with no mailbox message. -/
def bareRequest (r : RouteId) : Request := { route := r, seq := 0, item := 0 }

/-- What a command of the rushes does in a lane in P0: the rows that name one route, item, enable, splice, mode, force or service
command. Every other command is none of the rushes. -/
def Lane.rushCommand (x : CmdCtx) (l : Lane) (i : Instr) : Lane × List ModReq :=
  match i with
  | .routeRequest r => (l.requestRoute (bareRequest r), [])
  | .cancel r => (l.cancelRoute (bareRequest r), [])
  | .pointCallNormal e => (l.callItem e false 0 0, [])
  | .pointCallReverse e => (l.callItem e true 0 0, [])
  | .doorRelease e => (l.releaseItem e 0 0, [])
  | .doorClose e => (l.closeItem e 0 0, [])
  | .plungerReset e => (l.resetItem e 0 0, [])
  | .erlArm r => (l.erlArm (bareRequest r), [])
  | .erlExec r => (l.erlExec (bareRequest r), [])
  | .regionEn r => (l.enable 0 1 (r.zeroExtend 16), [])
  | .regionDis r => (l.regionOff r, [])
  | .sessionEn n => (l.enable 0 3 (n.zeroExtend 16), [])
  | .sessionDis n => (l.sessionOff n, [])
  | .groupEn g => (l.enable 0 4 (g.zeroExtend 16), [])
  | .groupDis g => (l.groupOff g.toNat, [.groupOff g.toNat])
  | .spliceBar set => l.spliceBar x 0 set
  | .spliceLoad => l.spliceLoad x 0
  | .spliceSchedule t => (l.spliceSchedule x 0 t, [])
  | .spliceAbort => l.spliceAbort x 0
  | .modeVital => l.modeCmd x 0 false
  | .modeCommission => l.modeCmd x 0 true
  | .forceSet a => l.forcePut x 0 0x50 a
  | .blockSet a => l.forcePut x 0 0x51 a
  | .forceClear a => l.forceClear x 0 a
  | .laneReset n => l.resetCmd x 0 n
  | .laneWrap n => l.wrapCmd x 0 n
  | .areaNotice d => (l.noticeCmd 0 d, [])
  | .restart => (l.outcome .service 0 0 0x103 1 0, [])
  | _ => (l, [])

/-- Commands that waited for the rushes act, in the order in which they came. -/
def Lane.rushCommands (x : CmdCtx) (l : Lane) (is : List Instr) : Lane × List ModReq :=
  is.foldl (fun (a : Lane × List ModReq) i =>
    let r := a.1.rushCommand x i
    (r.1, a.2 ++ r.2)) (l, [])

/-- P0 of a lane. -/
def Lane.rushes (x : CmdCtx) (held : List Instr) (f : FioSt) (l : Lane) : Lane × List ModReq :=
  let r := (l.clearTake.erlTick).takeCommands x
  let h := r.1.rushCommands x held
  let l := ((h.1.latchSessions).latchField f).loadMarks
  ((l.startSpliceCheck).onFab fun f => startPhase f .p0, r.2 ++ h.2)

/-! ### The module in P0 -/

/-- The mode that a partner's heartbeat or report names (R468). -/
def Mode.ofCode (c : BitVec 4) : Mode :=
  if c = 0 then .off else if c = 1 then .standIn else if c = 2 then .boot else if c = 3 then .verify
  else if c = 4 then .ready else if c = 5 then .integrating else if c = 6 then .vital else if c = 7 then .degraded
  else if c = 8 then .cut else if c = 9 then .commissioning else .witness

/-- The mode that the lanes' rules test: that of the module, and of the lead for a module that follows it in INTEGRATING
(R379, R417; DEDUCED, log 22). -/
def State.cmdMode (s : State) : Mode :=
  if s.sys.mode = .integrating ∧ s.pair.loaded then Mode.ofCode s.pair.partMode else s.sys.mode

/-- A condition on the lane counts of R410: three ACTIVE lanes, none held, no splice, no check. -/
def State.quietLanes (s : State) : Bool :=
  decide (s.activeCount = 3) && decide (s.voice.vit.reg.stage = .none)
    && LaneId.all.all fun l => (s.lane l).check.isNone && !(s.lane l).stat.held

/-- WRAP_AGE of the partner's last report (R405). -/
def State.partWrapAge (s : State) : Nat := natOfBytes (slice s.pair.partReport 18 2)

/-- The wrap period in hours (R409). -/
def State.wrapPeriod (s : State) : Nat := (field s.pair.wrapCfg 0 16).toNat

/-- A lane wrap may start (R410). -/
def State.wrapAllowed (s : State) : Bool :=
  let p := s.pair
  let per := s.wrapPeriod
  let report := decide (p.partReport ≠ [])
  p.winOpen && decide (per ≠ 0) && (decide (per ≤ p.wrapAge.toNat) || p.cycleOn) && decide (s.sys.mode = .vital)
    && s.quietLanes && decide (p.partMode = 6) && report && decide (field (p.partReport.getD 17 0) 0 2 = 0#2)
    && (match s.sys.role with
        | .lead => bit p.outWord 4 && (bit (p.partReport.getD 17 0) 2 || decide (s.partWrapAge < per))
        | .second => bit p.outWord 5
        | .none => false)

/-- The lanes that LANE_RESET may start (R240, R252, R548). -/
def State.resettable (s : State) : LaneMask :=
  LaneId.all.foldl (fun m l =>
    let t := (s.lane l).stat
    setBit m l.num (decide (t.state = .shutdown) && t.held || (decide (t.state = .excluded) && decide (t.cause = 0x08) && !t.dbg))) 0

/-- The splice set of a partial image that counts as verified (R286, R518): staged, and it fits the station area. -/
def State.verifiedSet (s : State) : Option (BitVec 16) :=
  let size := fun (m : Bytes) => 65536 * manBlocks m + m.length
  if s.stg.state = .staged ∧ manKind s.stg.manifest = 3
      ∧ (s.stg.station.map fun i => size i.manifest).sum + size s.stg.manifest ≤ 67108864 then
    some (manSpliceSet s.stg.manifest)
  else none

/-- What the lanes take from the module. -/
def State.cmdCtx (s : State) : CmdCtx :=
  { mode := s.cmdMode, active := s.activeCount, dbg := LaneId.all.any fun l => (s.lane l).stat.dbg, reset := s.resettable,
    wrapOk := s.wrapAllowed, image := s.verifiedSet }

/-- The enable of a field group is cleared: its output switches open at once (R430, R444; DEDUCED, log 121), and its output fault codes 0x2
to 0x8 clear, with what held their channels off (R454). -/
def clearGroupFaults (f : FioSt) (g : Nat) : FioSt :=
  let keep := ~~~groupPins g
  { f with cmd := { a := f.cmd.a &&& keep, b := f.cmd.b &&& keep, c := f.cmd.c &&& keep }, pins := ((List.range f.pins.length).zip f.pins).map fun e =>
      if bit (groupPins g) e.1 ∧ 2 ≤ e.2.fault.toNat ∧ e.2.fault.toNat ≤ 8 then { e.2 with fault := 0, off := false } else e.2 }

/-- The splice marker for a set (R300): the set, and the logical digest of the partial image in staging, which SPLICE_LOAD renews. -/
def State.markerFor (s : State) (set : BitVec 16) : State :=
  { s with stg := { s.stg with marker := some (set, if manKind s.stg.manifest = 3 then manLog s.stg.manifest else []) } }

/-- The coordinator journals the splice marker before it passes SPLICE_BAR to the lanes (R300). The marker of a splice in hand stands
(log 54). -/
def State.journalMarker (s : State) (set : BitVec 16) : State :=
  if s.voice.vit.reg.stage = .none then s.markerFor set else s

/-- What an applied command asks of the module takes effect (R291, R300, R454, R481, R495, R548, R559). -/
def State.applyReq (s : State) (q : ModReq) : State :=
  match q with
  | .mode c =>
    State.raise { s with sys := { s.sys with modePend := some c, commissioning := c } } .sys 4
  | .table => s.raise .sys 5
  | .reset l => s.onLane l fun x => x.onStat fun t => { t with resetReq := true }
  | .wrap l => s.onLane l fun x => x.onStat fun t => { t with wrapReq := true }
  | .marker set => s.markerFor set
  | .spliceUse =>
    { s with stg := { s.stg with
        state := .inUse, use := .splice, marker := s.stg.marker.map fun m => (m.1, manLog s.stg.manifest) } }
  | .spliceEnd =>
    { s with stg := { s.stg with
        marker := none
        state := if s.stg.use = .splice then .staged else s.stg.state
        use := if s.stg.use = .splice then .none else s.stg.use } }
  | .groupOff g => State.switched { s with fio := clearGroupFaults s.fio g } s
  | .mstat k c =>
    { s with mbx := { s.mbx with bc := ((List.range 4).zip s.mbx.bc).map fun e =>
        if e.1 = k then { e.2 with mstat := c } else e.2 } }

/-- Some lane's copy of a broadcast mailbox is full. -/
def State.boxFull (s : State) (k : Nat) : Bool :=
  LaneId.all.any fun l => (((s.lane l).mbx.getD k { words := [], len := 0, full := false, cmp := none })).full

/-- TX_FREE where the last copy of a mailbox has emptied (R546, R560). -/
def State.freedBoxes (old s : State) : State :=
  s.raiseIf ((List.range 4).any fun k => old.boxFull k && !s.boxFull k) .mbx 12

/-- A partial image whose splice has failed or has been abandoned is no longer in use (R516). -/
def State.freeStaging (s : State) : State :=
  let g := s.stg
  let stage := s.voice.vit.reg.stage
  if g.use = .splice ∧ (stage = .none ∨ stage = .barred) then { s with stg := { g with state := .staged, use := .none } } else s

/-- A splice has its image in use: its stage is between SPLICE_LOAD and the commit (R291, R516). -/
def usesImage (g : SpliceStage) : Bool := decide (g = .loading ∨ g = .checked ∨ g = .scheduled)

/-- Lanes chosen by `p` run an operation of P0; the requests of the module's voice take effect. A splice that the operation ends or
sets back gives its image back. -/
def State.withLanes (s : State) (p : Lane → Bool) (f : Lane → Lane × List ModReq) : State :=
  let reqs := if p s.voice then (f s.voice).2 else []
  let t := reqs.foldl State.applyReq (s.onLanes fun _ l => if p l then (f l).1 else l)
  if usesImage s.voice.vit.reg.stage then t.freeStaging else t

/-- An operation of P0 in every lane that is in P0. -/
def State.pureP0 (s : State) (f : Lane → Lane) : State :=
  s.onLanes fun _ l => if l.inP0 then f l else l

/-- P0 of the running take can still take a command: every lane that evaluates is in it. -/
def State.rushing (s : State) : Bool :=
  decide (s.lanesWith Lane.evaluates ≠ []) && (s.lanesWith Lane.evaluates).all fun l => (s.lane l).inP0

/-- A row of the rushes: in P0 the lanes apply the command; at any other time it is held for the rushes of the next take (R30). -/
def State.rushRow (s : State) (i : Instr) : State :=
  if s.rushing then s.withLanes Lane.inP0 fun l => l.rushCommand s.cmdCtx i
  else { s with take := { s.take with held := s.take.held ++ [i] } }

/-! ### Meanings -/

/-- The restart settle period ends where its takes have run (R478). -/
def State.endSettle (s : State) : State :=
  if s.sys.settling ∧ s.sys.settleLeft = 0 then { s with sys := { s.sys with settling := false } } else s

/-- The check of a service load starts in the first take after loading in which no lane runs another check (R525, R278). -/
def State.startService (s : State) : State :=
  let on := s.lanesWith Lane.evaluates
  if s.stg.service = .loading ∧ (on.all fun l => decide (loadTakes 0xFFFF ≤ (s.lane l).mem.loaded) && (s.lane l).check.isNone) then
    State.onLanes { s with stg := { s.stg with service := .checking } } fun _ l => if l.evaluates then l.startServiceCheck else l
  else s

/-- ROUTE_REQUEST: the request enters the agreed request set (R646), from which P0 takes the requests that it examines (R31, R183). -/
def execRouteRequest (r : RouteId) (s : State) : Answer := .next (s.rushRow (.routeRequest r))

/-- CANCEL (R184). -/
def execCancel (r : RouteId) (s : State) : Answer := .next (s.rushRow (.cancel r))

/-- POINT_CALL_NORMAL (R153). -/
def execPointCallNormal (e : Elem) (s : State) : Answer := .next (s.rushRow (.pointCallNormal e))

/-- POINT_CALL_REVERSE (R153). -/
def execPointCallReverse (e : Elem) (s : State) : Answer := .next (s.rushRow (.pointCallReverse e))

/-- DOOR_RELEASE (R163). -/
def execDoorRelease (e : Elem) (s : State) : Answer := .next (s.rushRow (.doorRelease e))

/-- DOOR_CLOSE (R164). -/
def execDoorClose (e : Elem) (s : State) : Answer := .next (s.rushRow (.doorClose e))

/-- PLUNGER_RESET (R171). -/
def execPlungerReset (e : Elem) (s : State) : Answer := .next (s.rushRow (.plungerReset e))

/-- ERL_ARM (R215, R216). -/
def execErlArm (r : RouteId) (s : State) : Answer := .next (s.rushRow (.erlArm r))

/-- ERL_EXEC (R215). -/
def execErlExec (r : RouteId) (s : State) : Answer := .next (s.rushRow (.erlExec r))

/-- ERL_EXPIRY (R215). -/
def execErlExpiry (r : RouteId) (s : State) : Answer := .next (s.pureP0 fun l => l.erlExpire r)

/-- ERL_WINDOW_LAPSE (R215). -/
def execErlWindowLapse (r : RouteId) (s : State) : Answer := .next (s.pureP0 fun l => l.erlLapse r)

/-- REGION_EN (R272, R278). -/
def execRegionEn (r : Region) (s : State) : Answer := .next (s.rushRow (.regionEn r))

/-- REGION_DIS (R272). -/
def execRegionDis (r : Region) (s : State) : Answer := .next (s.rushRow (.regionDis r))

/-- SESSION_EN (R272). -/
def execSessionEn (n : SesId) (s : State) : Answer := .next (s.rushRow (.sessionEn n))

/-- SESSION_DIS (R272, R350). -/
def execSessionDis (n : SesId) (s : State) : Answer := .next (s.rushRow (.sessionDis n))

/-- GROUP_EN (R272). -/
def execGroupEn (g : BitVec 3) (s : State) : Answer := .next (s.rushRow (.groupEn g))

/-- GROUP_DIS (R272, R454). -/
def execGroupDis (g : BitVec 3) (s : State) : Answer := .next (s.rushRow (.groupDis g))

/-- SPLICE_BAR (R284 to R288, R300). -/
def execSpliceBar (set : BitVec 16) (s : State) : Answer := .next ((s.journalMarker set).rushRow (.spliceBar set))

/-- SPLICE_LOAD (R291). -/
def execSpliceLoad (s : State) : Answer := .next (s.rushRow .spliceLoad)

/-- SPLICE_SCHEDULE (R292). -/
def execSpliceSchedule (t : Word) (s : State) : Answer := .next (s.rushRow (.spliceSchedule t))

/-- SPLICE_ABORT (R290). -/
def execSpliceAbort (s : State) : Answer := .next (s.rushRow .spliceAbort)

/-- MODE_VITAL (R481). -/
def execModeVital (s : State) : Answer := .next (s.rushRow .modeVital)

/-- MODE_COMMISSION (R481). -/
def execModeCommission (s : State) : Answer := .next (s.rushRow .modeCommission)

/-- FORCE_SET (R485). -/
def execForceSet (a : ForceArg) (s : State) : Answer := .next (s.rushRow (.forceSet a))

/-- BLOCK_SET (R485). -/
def execBlockSet (a : ForceArg) (s : State) : Answer := .next (s.rushRow (.blockSet a))

/-- FORCE_CLEAR (R485). -/
def execForceClear (a : ForceArg) (s : State) : Answer := .next (s.rushRow (.forceClear a))

/-- LANE_RESET (R240, R252, R548). -/
def execLaneReset (n : LaneId) (s : State) : Answer := .next (s.rushRow (.laneReset n))

/-- LANE_WRAP (R410, R411, R548). -/
def execLaneWrap (n : LaneId) (s : State) : Answer := .next (s.rushRow (.laneWrap n))

/-- AREA_NOTICE (R297, R548). -/
def execAreaNotice (d : BitVec 64) (s : State) : Answer := .next (s.rushRow (.areaNotice d))

end Sys2Proof.Machine
end

