-- ==== Sys2Proof/Machine/Records.lean ====
section
/-! DEFINITION. The bytes of a checkpoint's records (R233, R234, R351 to R353, R369, R482) and the digests over them: the full
vital state digest (R223) and the pair-agreement digest (R385). -/

namespace Sys2Proof.Machine

open Sys2Proof

/-- Record 1 (R233): 32 bytes, the unused space 0. -/
def record1 (h : TakeHdr) : Bytes := pad 32 (Config.record1 h)

/-- Record 2 (R233). -/
def record2 (v : Vital) : Bytes := toBytes 16 (digest16 (Config.snapshotBytes v.inputs))

/-- Record 3: the state vectors in ascending element identifier (R233); an element without vector is 0. -/
def record3 (v : Vital) : Bytes :=
  (List.range 4096).flatMap fun i => toBytes 8 (vecWord (vecOf v.vec (BitVec.ofNat 12 i)))

/-- The stage code of R285. -/
def SpliceStage.code : SpliceStage → Byte
  | .none => 0
  | .barred => 1
  | .loading => 2
  | .checked => 3
  | .scheduled => 4
  | .settling => 5

/-- The settle counts of a region as one number (R234). -/
def settleWord (g : RegionState) (r : Nat) : Quad :=
  g.settle.foldl (fun m s => if s.1.toNat = r then m ||| place 128 (2 * s.2.1.toNat) s.2.2 else m) 0

/-- Record 4 (R234). -/
def record4 (v : Vital) : Bytes :=
  let g := v.reg
  toBytes 2 g.regEn ++ toBytes 2 g.regRestrict ++ toBytes 2 g.active ++ [ofBit 0 g.rtActive ||| ofBit 1 g.rtShadow]
    ++ [SpliceStage.code g.stage] ++ toBytes 2 g.spliceSet ++ toBytes 4 g.commitTake ++ toBytes 2 g.rstDis
    ++ toBytes 2 g.shadow ++ [g.grpEn.zeroExtend 8] ++ List.replicate 13 0
    ++ (List.range 16).flatMap fun r => toBytes 16 (settleWord g r)

/-- The record of a session (R369), with bytes 20 to 31 as 0 where `pair` asks for it (R385). -/
def sesBytes (pair : Bool) (r : SesRec) : Bytes :=
  let w : BitVec 16 := r.ses.zeroExtend 16 ||| ofBit 15 r.enabled
  let f : Byte := ofBit 0 r.fresh ||| ofBit 1 r.ever ||| ofBit 2 r.claimAhead ||| ofBit 3 r.diff ||| ofBit 4 r.timeout
  let t : Byte := ofBit 0 r.force ||| ofBit 1 r.paired ||| ofBit 2 r.sending
  toBytes 2 w ++ [f, r.age] ++ toBytes 5 r.rxRound ++ List.replicate 3 0 ++ toBytes 4 r.echo ++ toBytes 4 r.rxClaim
    ++ if pair then List.replicate 12 0 else toBytes 4 r.txTake ++ toBytes 4 r.txClaim ++ [t, 0, 0, 0]

/-- Record 5: sessions 1 to 511; an unused session is 0 (R233). -/
def record5 (pair : Bool) (v : Vital) : Bytes :=
  (List.range 511).flatMap fun i =>
    match v.ses.find? fun r => decide (r.ses = BitVec.ofNat 9 (i + 1)) with
    | some r => sesBytes pair r
    | none => List.replicate 32 0

/-- An entry of the force and blocking table (R482). -/
def forceBytes (e : ForceEntry) : Bytes :=
  toBytes 2 (e.target.zeroExtend 16 ||| ofBit 15 true : BitVec 16) ++ [e.type, e.first, e.width, e.value, 0, 0]
    ++ toBytes 4 e.take ++ List.replicate 4 0

/-- Record 6 (R216, R233): 128 bytes. -/
def record6 (v : Vital) : Bytes := pad 128 (Config.record6 v.erl)

/-- Record 7 (R233): 4,096 bytes. -/
def record7 (v : Vital) : Bytes := pad 4096 (Config.record7 v.pending v.outcomes)

/-- Record 8. -/
def record8 (v : Vital) : Bytes := pad 4096 (v.force.flatMap forceBytes)

/-- SES_WORD of a command telegram (R352). -/
def sesWord (p : LatchPayload) : BitVec 16 := p.ses.zeroExtend 16 ||| ofBit 10 p.force ||| ofBit 11 p.paired

/-- The 44 bytes of a command telegram before SAFETY, sent in a round (R351, R353); 0 for SEQ in the latch (R358). -/
def payloadBytes (p : LatchPayload) (seq : Word) : Bytes :=
  toBytes 2 (sesWord p) ++ toBytes 4 p.claim ++ toBytes 4 seq ++ toBytes 4 p.take ++ toBytes 30 p.elem

/-- Record 9: 511 payloads, then the field output commands (R233). -/
def record9 (v : Vital) : Bytes :=
  ((List.range 511).flatMap fun i =>
      match v.latch.payloads.find? fun p => decide (p.ses = BitVec.ofNat 9 (i + 1)) with
      | some p => payloadBytes p 0 ++ List.replicate 4 0
      | none => List.replicate 48 0)
    ++ toBytes 8 (v.latch.pins.zeroExtend 64 : BitVec 64)

/-- Records 2 to 8. -/
def records2to8 (pair : Bool) (v : Vital) : Bytes :=
  record2 v ++ record3 v ++ record4 v ++ record5 pair v ++ record6 v ++ record7 v ++ record8 v

/-- The full vital state digest (R223). -/
def vitalDigest (v : Vital) : Quad := digest16 (record1 v.hdr ++ records2to8 false v ++ record9 v)

/-- The pair-agreement digest (R385). -/
def pairDigest (v : Vital) : Quad := digest16 (toBytes 4 v.hdr.takeNum ++ toBytes 4 v.hdr.claim ++ records2to8 true v)

/-- Record 10 (R233, R475): 256 bytes. -/
def record10 (k : Checkpoint) : Bytes := pad 256 (Config.record10 k.station)

/-- The bytes of a checkpoint (R233): records 1 to 11. -/
def Checkpoint.bytes (k : Checkpoint) : Bytes :=
  record1 k.vital.hdr ++ records2to8 false k.vital ++ record9 k.vital ++ record10 k ++ toBytes 16 k.digest

end Sys2Proof.Machine
end

