-- ==== Sys2Proof/Machine/Mirrors.lean ====
section
/-! DEFINITION. The vital mirrors (R18, R19): the words of R59, R108, R254, R375, R420, R462 and R489, and their common update
in the boundary work. -/

namespace Sys2Proof.Machine

open Sys2Proof

/-- Word `i` of a string of bytes. -/
def wordAt (b : Bytes) (i : Nat) : Word := getBE 32 b (4 * i) 4

/-- The words of a string of bytes at addresses from `a` on, as (address, word). -/
def wordsAt (a : Word) (n : Nat) (b : Bytes) : List (Word × Word) :=
  (List.range n).map fun i => (a + BitVec.ofNat 32 (4 * i), wordAt b i)

/-- The three lanes' words at addresses from `a` on. -/
def laneWords (a : Word) (f : LaneId → Word) : List (Word × Word) :=
  LaneId.all.map fun l => (a + BitVec.ofNat 32 (4 * l.num), f l)

/-- TAKE mirrors (R59 to R61). -/
def takeWords (s : State) : List (Word × Word) :=
  let t := s.take
  let d := s.voice.data
  [(0x40010000, place 32 0 d.nCfg ||| place 32 8 d.nMax ||| place 32 16 d.sImg),
   (0x40010004, place 32 0 t.nCur ||| place 32 8 t.nPend), (0x40010008, field t.pendRound 0 32),
   (0x4001000C, place 32 0 (field t.pendRound 32 8)), (0x40010010, t.num), (0x40010014, field t.start.word 0 32),
   (0x40010018, field t.start.word 32 32)]

/-- LANE_STATE (R255). -/
def laneStateWord (s : State) : Word :=
  LaneId.all.foldl (fun w l =>
    let t := (s.lane l).stat
    w ||| place 32 (4 * l.num) (laneCode t.state) ||| ofBit (4 * l.num + 3) t.held ||| ofBit (12 + l.num) t.dbg)
    (ofBit 15 (decide (s.activeCount = 2)))

/-- LANE mirrors (R254, R256, R259). -/
def laneMirrors (s : State) : List (Word × Word) :=
  let v := s.vote
  [(0x40020000, laneStateWord s),
   (0x4002002C, ofBit 0 v.ckptSlot ||| ofBit 1 v.ckptValid ||| place 32 16 (field v.ckptTake 0 16))]
  ++ laneWords 0x40020004 (fun l =>
      place 32 0 (s.lane l).stat.cause ||| place 32 16 (field (s.lane l).stat.causeTake 0 16))
  ++ wordsAt 0x40020040 4 (toBytes 16 v.agreed)

/-- A service load or its check is in progress (R110). -/
def serviceRuns (s : State) : Bool := decide (s.stg.service ≠ .none)

/-- REG_PLANE (R109). -/
def regPlaneWord (s : State) : Word :=
  let g := s.voice.vit.reg
  let valid := ((List.range 14).zip (regionsOf g.spliceSet)).foldl (fun (m : BitVec 14) e => setBit m e.1 (bit g.shadow e.2)) 0
  place 32 0 g.active ||| ofBit 16 g.rtActive ||| ofBit 17 g.rtShadow
    ||| if serviceRuns s then 0 else place 32 18 valid

/-- SHADOW_ALL (R110). -/
def shadowAllWord (s : State) : Word :=
  let g := s.voice.vit.reg
  if serviceRuns s then
    place 32 0 g.shadow ||| ofBit 16 g.rtShadow ||| ofBit 17 (decide (s.stg.service = .loading ∨ s.stg.service = .checking))
  else 0

/-- LANE_REG of a lane (R111). -/
def laneRegWord (s : State) (l : LaneId) : Word :=
  place 32 0 (s.lane l).store.unusable
    ||| match (s.lane l).relocRegion l with | some r => ofBit (16 + r) true | none => 0

/-- FAB mirrors (R108 to R112). -/
def fabWords (s : State) : List (Word × Word) :=
  let g := s.voice.vit.reg
  [(0x40030000, place 32 0 g.regEn), (0x40030004, regPlaneWord s), (0x40030008, place 32 0 g.regRestrict),
   (0x4003000C, shadowAllWord s), (0x40030020, place 32 0 g.spliceSet ||| place 32 16 (field (SpliceStage.code g.stage) 0 3)),
   (0x40030024, g.commitTake)]
  ++ laneWords 0x40030010 (laneRegWord s) ++ wordsAt 0x40030300 16 s.vote.logDig

/-- The sessions with a property, as 16 words. -/
def sesMask (l : List SesRec) (p : SesRec → Bool) : BitVec 512 :=
  l.foldl (fun m r => if p r then setBit m r.ses.toNat true else m) 0

/-- SES_EN and SES_STALE (R375). -/
def sesWords (s : State) : List (Word × Word) :=
  let l := s.voice.vit.ses
  let words := fun (a : Word) (m : BitVec 512) =>
    (List.range 16).map fun i => (a + BitVec.ofNat 32 (4 * i), (field m (32 * i) 32 : Word))
  words 0x40050000 (sesMask l (·.enabled)) ++ words 0x40050040 (sesMask l fun r => r.enabled && !r.fresh)

/-- The partner is out of sight in this round so far (R397). -/
def PairSt.unseen (p : PairSt) : Bool := !p.linkUp && !p.nowEarly

/-- A partner in VITAL, DEGRADED or COMMISSIONING is seen (R472). -/
def PairSt.partnerRuns (p : PairSt) : Bool :=
  (decide (p.partMode = 6 ∨ p.partMode = 7 ∨ p.partMode = 9)) && (p.rxUp || p.seenA || p.seenB || p.nowA || p.nowB)

/-- REQUEST (R398, R472): the partner is lost; the lead has resigned to this second; or the module would start the installation and
no broadcast has decided. -/
def State.requests (s : State) : Bool :=
  let p := s.pair
  (p.lost && p.unseen) || (p.resigned && decide (s.sys.role = .second)) ||
    (decide (s.sys.mode = .integrating) && !p.loaded && !p.startReq && !p.refused && !p.partnerRuns)

/-- Claim and holder as a lane of the witness has them: those of its store, and otherwise INIT_CLAIM and INIT_HOLDER (R392, R393). -/
def Lane.witClaim (l : Lane) : Word × NodeId := l.witStore.getD (getBE 32 l.data.witness 8 4, getBE 12 l.data.witness 12 2)

/-- A broadcast was accepted in the last 8 rounds (R405, R421). -/
def PairSt.sees (p : PairSt) : Bool := p.witnessSeen && decide (p.witRounds < 8)

/-- PAIR mirrors (R420 to R422). -/
def pairWords (s : State) : List (Word × Word) :=
  let p := s.pair
  [(0x40060000, place 32 0 (roleCode s.sys.role) ||| ofBit 2 p.linkUp ||| ofBit 3 p.seenA ||| ofBit 4 p.seenB ||| ofBit 5 p.lost
      ||| ofBit 6 p.sees ||| ofBit 7 p.sending ||| ofBit 8 p.paired ||| ofBit 9 s.requests ||| ofBit 10 p.demoted
      ||| ofBit 11 p.resigned),
   (0x40060004, if p.usable then p.claim else 0), (0x40060008, place 32 0 p.witHolder ||| place 32 12 p.witNode), (0x4006000C, p.witClaim),
   (0x40060014, p.outWord)]

/-- The two words of a pin mask. -/
def pinWords (a : Word) (m : BitVec 48) : List (Word × Word) := [(a, field m 0 32), (a + 4, place 32 0 (field m 32 16))]

/-- The pins of the field groups that are enabled. -/
def enabledPins (g : BitVec 6) : BitVec 48 :=
  (List.range 6).foldl (fun m k => if bit g k then m ||| groupPins (k + 1) else m) 0

/-- The field output commands of the latch that P6 has finished, as they come into effect (R19, R35, R444, R461). -/
def State.latchedCommand (s : State) : BitVec 48 :=
  let v := s.voice.vit
  if s.sys.mode.runs ∧ (s.sys.role = .lead ∨ bit s.pair.outWord 5) ∧ ¬ s.pair.withhold then v.latch.pins &&& enabledPins v.reg.grpEn else 0

/-- FIO mirrors (R462, R464). -/
def fioWords (s : State) : List (Word × Word) :=
  let sag := ((List.range 6).zip s.fio.groups).foldl (fun (m : BitVec 6) e => setBit m e.1 e.2.snapSag) 0
  (0x40070004, place 32 0 s.voice.vit.reg.grpEn ||| place 32 8 sag)
    :: pinWords 0x40070030 s.voice.vit.inputs.inX ++ pinWords 0x40070038 s.voice.vit.inputs.rmask
    ++ pinWords 0x40070040 s.latchedCommand ++ pinWords 0x40070048 (pinMask s.fio fun p => faultRestricts p.snapFault)

/-- FORCE_IND is active (R487). -/
def State.forceInd (s : State) : Bool :=
  s.sys.mode.runs && (decide (s.sys.mode = .commissioning) || decide (s.voice.vit.force ≠ []))

/-- FORCE_STAT (R494). -/
def forceStatWord (s : State) : Word :=
  let l := s.voice.vit.force
  let n := fun (p : Byte → Bool) => BitVec.ofNat 9 (l.filter fun e => p e.type).length
  place 32 0 (n fun t => decide (t = 1 ∨ t = 2)) ||| place 32 9 (n fun t => decide (t = 3 ∨ t = 4 ∨ t = 5))
    ||| place 32 18 (n fun t => decide (t = 6)) ||| ofBit 27 s.forceInd

/-- ENABLES (R492). -/
def enablesWord (s : State) : Word :=
  ofBit 0 s.sys.vitalEn ||| match s.voice.check with
    | some c => ofBit 1 true ||| place 32 2 c.scope ||| place 32 5 (BitVec.ofNat 6 c.slice)
    | none => 0

/-- SYS mirrors (R489). -/
def sysWords (s : State) : List (Word × Word) :=
  [(0x40000020, modeWord s.sys), (0x40000024, enablesWord s), (0x40000028, s.sys.reason), (0x4000002C, s.sys.reasonTake),
   (0x40000040, forceStatWord s)]

/-- Every mirror word. -/
def mirrorWords (s : State) : List (Word × Word) :=
  sysWords s ++ takeWords s ++ laneMirrors s ++ fabWords s ++ sesWords s ++ pairWords s ++ fioWords s

/-- All vital mirrors change together (R19). -/
def State.updateMirrors (s : State) : State :=
  let v := s.voice.vit
  { s with mirror := { s.mirror with regs := mirrorWords s, force := v.force, ses := v.ses, vec := v.vec } }

/-! ### Non-vital registers of the boundary work -/

/-- The word of an address, or 0. -/
def wordFor (m : List (Word × Word)) (a : Word) : Word := ((m.find? fun e => decide (e.1 = a)).map (·.2)).getD 0

/-- PHASE and SETTLE of a lane (R58); a lane that does not evaluate keeps its last values (R59). -/
def phaseWords (s : State) (l : LaneId) : List (Word × Word) :=
  let x := s.lane l
  let a : Word := 0x40010060 + BitVec.ofNat 32 (32 * l.num)
  (List.range 8).map fun i =>
    let b := a + BitVec.ofNat 32 (4 * i)
    (b, if x.evaluates then satNat 32 (if i = 7 then x.fab.settleNs else x.fab.durs.getD i 0) else wordFor s.mirror.meas b)

/-- TAKE registers that are no mirrors (R58, R62 to R64, R66). -/
def takeMeasures (s : State) : List (Word × Word) :=
  let t := s.take
  [(0x40010020, place 32 0 t.margin ||| place 32 16 t.mCfg ||| place 32 28 t.laneMin),
   (0x40010040, place 32 0 t.good ||| place 32 16 t.low), (0x40010048, t.lenCnt), (0x4001004C, t.ovrCnt), (0x40010050, t.ovrLast)]
  ++ laneWords 0x40010024 (fun l =>
      let a := (s.lane l).adp
      place 32 0 a.margin ||| place 32 12 a.region ||| place 32 16 a.phase ||| place 32 20 a.step ||| ofBit 31 a.valid)
  ++ LaneId.all.flatMap (phaseWords s)

/-- SEQ of a lane (R258). -/
def seqWord (t : LaneStat) : Word :=
  place 32 0 t.gap ||| ofBit 2 t.waiting ||| ofBit 3 t.running ||| ofBit 4 t.dbg

/-- LANE registers that are no mirrors (R254, R257, R258). -/
def laneMeasures (s : State) : List (Word × Word) :=
  let stat := fun (l : LaneId) => (s.lane l).stat
  let recov := LaneId.all.foldl (fun (w : Word) l =>
    w ||| place 32 (4 * l.num) (stat l).matchCnt ||| place 32 (4 * l.num + 2) (stat l).failCnt) 0
  [(0x4002001C, recov), (0x40020034, s.vote.dbgRefused), (0x40020038, s.vote.telMis), (0x4002003C, s.vote.swMis)]
  ++ laneWords 0x40020010 (fun l => (stat l).exclCnt) ++ laneWords 0x40020020 (fun l => seqWord (stat l))
  ++ LaneId.all.flatMap fun l => wordsAt (0x40020050 + BitVec.ofNat 32 (16 * l.num)) 4 (toBytes 16 (s.lane l).digest)

/-- VERIFY_STAT (R115). -/
def verifyWord (s : State) : Word := LaneId.all.foldl (fun (w : Word) l => w ||| place 32 (4 * l.num) (s.lane l).verify) 0

/-- The region readback digests of a lane (R107): bytes 4 to 7 first. -/
def rdigWords (l : Lane) (a : Word) : List (Word × Word) :=
  (List.range 16).flatMap fun r =>
    let d := ((l.mem.rdig.find? fun e => decide (e.1.toNat = r)).map (·.2)).getD 0
    [(a + BitVec.ofNat 32 (8 * r), field d 0 32), (a + BitVec.ofNat 32 (8 * r + 4), field d 32 32)]

/-- FAB registers that are no mirrors (R107, R108, R113, R115). Each lane scrubs for itself; the rules do not say whose position SCRUB_POS
shows: that of the first ACTIVE lane in the order A, B, C. DESIGN CHOICE (log 109). -/
def fabMeasures (s : State) : List (Word × Word) :=
  let m := s.voice.mem
  [(0x40030030, place 32 0 m.scrubReg ||| place 32 4 (BitVec.ofNat 11 m.scrubCw)), (0x40030080, verifyWord s)]
  ++ laneWords 0x40030040 (fun l => (s.lane l).mem.corr) ++ laneWords 0x4003004C (fun l => (s.lane l).mem.chkRep)
  ++ laneWords 0x40030058 (fun l => (s.lane l).mem.uncorr) ++ laneWords 0x40030064 (fun l => (s.lane l).mem.latchRep)
  ++ LaneId.all.flatMap fun l => rdigWords (s.lane l) (0x40030100 + BitVec.ofNat 32 (128 * l.num))

/-- The PAIR counters (R419, R420). -/
def pairMeasures (s : State) : List (Word × Word) :=
  let p := s.pair
  [(0x40060040, p.diffCnt), (0x40060044, p.absentCnt), (0x40060048, p.withheldCnt), (0x4006004C, p.linkDownCnt),
   (0x40060050, p.grantCnt), (0x40060054, p.lostCnt)]

/-- The non-vital TAKE, LANE and FAB registers and the PAIR counters as the boundary work leaves them (R59, R108, R254, R420). -/
def State.showMeasures (s : State) : State :=
  { s with mirror := { s.mirror with meas := takeMeasures s ++ laneMeasures s ++ fabMeasures s ++ pairMeasures s } }

end Sys2Proof.Machine
end

