-- ==== Sys2Proof/Machine/Restart.lean ====
section
/-! DEFINITION. How the installation's state starts: the splice marker (R301), the cold-restart value (R476), the conditions of a
warm restart (R475), cold and warm restart (R476 to R480), the restart settle period (R478), and a lane that takes its state
from another (R237, R417). -/

namespace Sys2Proof.Machine

open Sys2Proof

/-! ### The images in use -/

/-- The image in staging once it is complete (R515). -/
def State.stagedImage (s : State) : Option Image :=
  if s.stg.state = .staged ∨ s.stg.state = .inUse then
    some { manifest := s.stg.manifest,
           blocks := (List.range (manBlocks s.stg.manifest)).map fun n =>
             ((s.stg.blocks.find? fun b => decide (b.1 = n)).map (·.2)).getD [] }
  else none

/-- The images whose content the lanes run, in commit order: those of the station area, and one that has been committed and is
still being copied there (R520, R522). -/
def State.liveChain (s : State) : List Image :=
  if s.stg.use = .copy ∧ s.stg.copyStation then
    match s.stagedImage with
    | some i => if manKind i.manifest = 3 then s.stg.station ++ [i] else [i]
    | none => s.stg.station
  else s.stg.station

/-- A lane runs with a relocated region (R271). -/
def State.anyRelocated (s : State) : Bool := LaneId.all.any fun l => ((s.lane l).relocRegion l).isSome

/-! ### The splice marker (R301) -/

/-- The set of the marker and whether the active area already holds the partial image. -/
def State.markerSet (s : State) : Option (BitVec 16 × Bool) :=
  s.stg.marker.map fun m => (m.1, s.stg.station.any fun i => decide (manLog i.manifest = m.2))

/-- A lane's region state under the marker. -/
def markRegions (mk : Option (BitVec 16 × Bool)) (g : RegionState) : RegionState :=
  match mk with
  | none => g
  | some (set, holds) =>
    let g := { g with regEn := g.regEn &&& ~~~set, regRestrict := g.regRestrict ||| set, shadow := g.shadow &&& ~~~set,
                      rtShadow := false, commitTake := 0, sched := false, settle := [] }
    if holds then { g with stage := .none, spliceSet := 0, rstDis := g.rstDis &&& ~~~set }
    else { g with stage := .barred, spliceSet := set, rstDis := g.rstDis ||| set }

/-- The regions of the marker's set. -/
def markMask (mk : Option (BitVec 16 × Bool)) : BitVec 16 := (mk.map (·.1)).getD 0

/-! ### Tile values -/

/-- The cold-restart value of a tile (R476). -/
def coldValue (c : TileCfg) : TileVec :=
  let v := { TileVec.zero with pers := cfgPersCode c }
  match cfgPers c with
  | .boundary => psField v 0 0b0010#4
  | .plunger | .auxlogic => psSet v 0 true
  | .buffer => psSet v 0 (!paramBit c 0)
  | _ => v

/-- The value of a tile after a warm restart (R477); `appr` is the approach-locking count of the route it holds. -/
def warmValue (c : TileCfg) (appr : BitVec 16) (old : TileVec) : TileVec :=
  let v := coldValue c
  let v := if old.hold = 2 ∨ old.hold = 3 then { v with hold := old.hold, route := old.route } else v
  match cfgPers c with
  | .track => psSet v 4 (ps old 4)
  | .point => psSet (psSet v 8 (ps old 8)) 5 (ps old 5)
  | .signal =>
    let v := psSet (psSet v 10 (ps old 10)) 12 (ps old 12)
    if ps old 12 then { v with tmr := appr } else v
  | .doors =>
    let v := psSet v 4 (ps old 4)
    if ps old 1 ∨ old.tmr ≠ 0 then { v with tmr := param c 0 16 } else v
  | .boundary => psSet v 5 (ps old 5)
  | .plunger => psSet v 2 (ps old 2)
  | _ => v

/-- A state vector for every tile of the lane. -/
def Lane.vectors (l : Lane) (f : Elem → TileCfg → TileVec) : List (Elem × TileVec) :=
  l.fab.tiles.map fun t => (cfgElem t.cfg, f (cfgElem t.cfg) t.cfg)

/-- The regions that hold a tile other than EMPTY. -/
def Lane.usedRegions (l : Lane) : BitVec 16 :=
  l.fab.tiles.foldl (fun m t => if cfgPers t.cfg = .empty then m else setBit m (regionOf (cfgElem t.cfg)) true) 0

/-- The field groups with EN_AT_VITAL (R268). -/
def groupsAtVital (d : StationData) : BitVec 6 :=
  (List.range 6).foldl (fun m g => setBit m g (bit (d.groups.getD g 0) 0)) 0

/-! ### Restart -/

/-- The newest checkpoint of a lane. -/
def Lane.newest (l : Lane) : Option Checkpoint := if l.ckptLast then l.ckptB else l.ckptA

/-- The checkpoint that condition 3 of R475 accepts: decoded, its record 11 the recomputed digest, and equal in all lanes. -/
def State.goodCheckpoint (s : State) : Option Checkpoint :=
  match s.laneA.newest, s.laneB.newest, s.laneC.newest with
  | some a, some b, some c =>
    if (a.vital.hdr.takeNum = b.vital.hdr.takeNum ∧ a.vital.hdr.takeNum = c.vital.hdr.takeNum)
        ∧ (a.digest = b.digest ∧ a.digest = c.digest)
        ∧ (a.digest = vitalDigest a.vital ∧ b.digest = vitalDigest b.vital ∧ c.digest = vitalDigest c.vital) then some a
    else none
  | _, _, _ => none

/-- A lane has passed its last verification (R105, R520). -/
def Lane.passed (l : Lane) : Bool := l.verifyOk

/-- The age of a checkpoint at the first take, in ticks (R475). -/
def State.ckptAge (s : State) (k : Checkpoint) : Nat := s.now.ticks - k.vital.hdr.start.ticks

/-- The first condition of R475 that fails, 1 to 6, or 0. -/
def State.warmFail (s : State) : Nat :=
  let d := s.voice.data
  if d.warmAge = 0 then 1
  else if ¬ (LaneId.all.all fun l => (s.lane l).passed) then 2
  else
    match s.goodCheckpoint with
    | none => 3
    | some k =>
      if ¬ (LaneId.all.all fun l => ((s.lane l).newest.map (·.station)) == some (stationDigest s.stg.station)) then 4
      else if s.pair.claim ≠ k.vital.hdr.claim + 1 then 5
      else if s.now.ticks < k.vital.hdr.start.ticks ∨ d.warmAge.toNat * secondTicks ≤ s.ckptAge k then 6
      else 0

/-- The vital state that no restart carries, cleared, with the blockings and drop holds of the restart store (R479, R480). -/
def Lane.blank (l : Lane) : Lane :=
  { (l.onVit fun v =>
      { v with inputs := Vital.reset.inputs, erl := [], pending := [], outcomes := [], ses := [], force := l.store.blocks,
               latch := { payloads := [], pins := 0 } }) with
    rx := [], disabled := l.store.disabled, check := none }

/-- Cold restart of a lane (R476). -/
def Lane.coldStart (mk : Option (BitVec 16 × Bool)) (l : Lane) : Lane :=
  let l := l.blank
  let l := l.onVit fun v =>
    { v with
      vec := l.vectors fun _ c => coldValue c
      reg := markRegions mk
        { Vital.reset.reg with
          regEn := l.usedRegions &&& ~~~l.store.disabled, active := v.reg.active, rtActive := v.reg.rtActive,
          grpEn := groupsAtVital l.data } }
  ((List.range 511).map fun i => BitVec.ofNat 9 (i + 1)).foldl (fun l n =>
    if sesAtVital (sesEntry l.data n) then l.sessionOn n else l) l

/-- Warm restart of a lane (R477) from the checkpoint's records 3 to 5; the regions of the marker restore nothing (R301). The
planes stand where the reload put them (log 23). -/
def Lane.warmStart (mk : Option (BitVec 16 × Bool)) (k : Vital) (l : Lane) : Lane :=
  let l := l.blank
  let l := l.onVit fun v =>
    { v with
      vec := l.vectors fun e c =>
        if bit (markMask mk) (regionOf e) then coldValue c
        else
          let old := vecOf k.vec e
          warmValue c (l.timer (rtApprIdx (l.route old.route))) old
      reg := markRegions mk { k.reg with active := v.reg.active, rtActive := v.reg.rtActive } }
  (k.ses.filter (·.enabled)).foldl (fun l r => l.sessionOn r.ses) l

/-- The length of the restart settle period in takes (R478). -/
def Lane.settleTakes (l : Lane) : Nat :=
  (l.fab.tiles.foldl (fun m t =>
    match cfgPers t.cfg with
    | .track => max m (param t.cfg 0 16).toNat
    | .point => max m (param t.cfg 16 16).toNat
    | _ => m) 0) + 1

/-- The RESTART register of R493. -/
def restartWord (kind : BitVec 2) (why : Nat) (auto : Bool) (age : BitVec 16) : Word :=
  place 32 0 kind ||| place 32 2 (BitVec.ofNat 4 why) ||| ofBit 6 auto ||| place 32 16 age

/-- The lanes that evaluate start from the restart store and, warm, from the checkpoint (R475 to R480); RESTART, its record and
the counts. -/
def State.restartStation (s : State) : State :=
  let why := s.warmFail
  let mk := s.stg.startMark
  let age := match s.goodCheckpoint with | some k => satNat 16 (s.ckptAge k / secondTicks) | none => 0
  let warm : Option Vital := if why = 0 then s.goodCheckpoint.map (·.vital) else none
  let s := s.onLanes fun _ l =>
    if l.evaluates then (match warm with | some k => l.warmStart mk k | none => l.coldStart mk) else l
  let w := restartWord (if why = 0 then 2 else 1) why s.sys.autoStart age
  let y := s.sys
  let s := { s with
    sys := { y with
      restart := w, vitalEn := true
      cold := if why = 0 then y.cold else satInc y.cold
      warm := if why = 0 then satInc y.warm else y.warm
      settling := decide (why = 0), settleLeft := if why = 0 then s.voice.settleTakes else 0 }
    stg := { s.stg with startMark := none }
    reel := { s.reel with daily := { s.reel.daily with restarts := satInc s.reel.daily.restarts } } }
  (s.raise .sys (if why = 0 then 3 else 2)).record 5 0x11 (toBytes 4 w ++ toBytes 4 s.pair.claim)

/-! ### State taken from another lane or module (R237, R417) -/

/-- The lane loads records 1 to 9. Its latches follow; where the active planes differ from those it holds, it takes the content
of the live images into them (DEDUCED, log 23). The receive path keeps its own frames. -/
def Lane.adopt (l : Lane) (id : LaneId) (chain : List Image) (v : Vital) : Lane :=
  let g := l.vit.reg
  let l := { l with vit := v }
  let l := if g.active = v.reg.active ∧ g.rtActive = v.reg.rtActive then l else l.load id chain
  let l := l.reloadLatches id
  { l with rx := v.ses.foldl (fun rx r => rxInsert (rxOf l.rx r.ses) rx) [] }

end Sys2Proof.Machine
end

