-- ==== Sys2Proof/Machine/Splice.lean ====
section
/-! DEFINITION. Shadow loading (R291, R525), the commit of a splice (R93, R293, R294, R299), the end of settling (R297), the
slices of the consistency check (R273 to R277), and the meanings of CHECK_SLICE, SHADOW_LOAD, SPLICE_COMMIT and
SPLICE_SETTLED. -/

namespace Sys2Proof.Machine

open Sys2Proof

/-! ### Lane reports outside a lane's own order (R499) -/

/-- Two bodies are equal apart from the mask. -/
def sameBody (a b : RecBody) : Bool := decide ({ a with mask := 0 } = { b with mask := 0 })

/-- The order of R499: STAMP, SOURCE, CODE, DATA. -/
def bodyKey (b : RecBody) : Nat :=
  natOfBytes (toBytes 8 b.stamp ++ [b.source.zeroExtend 8, b.code] ++ pad 12 b.data)

/-- A body takes its place in that order. -/
def bodyInsert (b : RecBody) : List RecBody → List RecBody
  | [] => [b]
  | c :: l => if bodyKey b < bodyKey c then b :: c :: l else c :: bodyInsert b l

/-- A lane's body joins an equal one of another lane, or stands alone with the lane's mask. Equal bodies of one lane stay
apart. -/
def mergeBody (l : LaneId) (b : RecBody) : List RecBody → List RecBody
  | [] => [{ b with mask := setBit 0 l.num true }]
  | c :: rest =>
    if sameBody b c ∧ ¬ l.inMask c.mask then { c with mask := setBit c.mask l.num true } :: rest
    else c :: mergeBody l b rest

/-- The reports of the lanes enter the Reel (R499). -/
def State.mergeReports (s : State) : State :=
  let all := LaneId.all.foldl (fun a l => (s.lane l).report.foldl (fun a b => mergeBody l b a) a) []
  (all.foldl (fun l b => bodyInsert b l) []).foldl State.reelEnter (s.onLanes fun _ x => { x with report := [] })

/-! ### The reason record and the indication of a take -/

/-- The last decision on an enable in the take is the reason record (R279, R489). -/
def State.latchReason (s : State) : State :=
  match (s.voice.vit.outcomes.filter fun o => decide (o.kind = .enable)).getLast? with
  | some o =>
    let s := { s with sys := { s.sys with reason := reasonWord o.code o.cause o.what, reasonTake := s.take.num } }
    s.raiseIf (decide (o.code ≠ 0)) .sys 6
  | none => s

/-- IND_TAKE on every CONTROL and AUTHORITY session (R648). -/
def State.indTake (s : State) (old : List (Elem × TileVec)) : State :=
  let v := s.voice.vit
  let changed := s.mirror.vec.filter fun e => !old.contains e
  s.port.sessions.foldl (fun (s : State) c =>
    if c.role = .maint then s
    else s.emit (.take c.sid s.take.num s.sys.mode s.sys.role (if s.pair.usable then s.pair.claim else 0) v.outcomes changed)) s

/-! ### Shadow loading -/

/-- 16 KiB piece `i` of the shadow content of a set: its regions in ascending order, then the route table (R291). -/
def Lane.shadowPiece (l : Lane) (id : LaneId) (i : Image) (set : BitVec 16) (n : Nat) : Lane :=
  let rs := regionsOf set
  let g := l.vit.reg
  let m := l.mem.cells
  let cells :=
    match rs[n]? with
    | some r => storeRegion m (!activePlane g r) r ((imageRegion i id r).getD [])
    | none =>
      let k := n - rs.length
      if k < 8 then
        memStore m (rtAddr (!g.rtActive) (512 * k)) (encodeAll (slice ((imageSect i 2 0).getD []) (16384 * k) 16384))
      else m
  { l with mem := { l.mem with cells := cells } }

/-- The set that a lane's shadow loading fills: of a splice, or all regions in a service load (R525). -/
def State.loadSet (s : State) : Option (BitVec 16) :=
  if s.stg.service = .loading then some 0xFFFF
  else if s.voice.vit.reg.stage = .loading then some s.voice.vit.reg.spliceSet
  else none

/-- One portion of shadow loading, 64 KiB (R291). -/
def Lane.shadowPortion (l : Lane) (id : LaneId) (i : Image) (set : BitVec 16) : Lane :=
  if loadTakes set ≤ l.mem.loaded then l
  else
    let l := (List.range 4).foldl (fun l k => l.shadowPiece id i set (4 * l.mem.loaded + k)) l
    { l with mem := { l.mem with loaded := l.mem.loaded + 1 } }

/-- Shadow loading of a lane in a take: one portion (R291). -/
def Lane.shadowLoad (l : Lane) (id : LaneId) (i : Image) (set : BitVec 16) : Lane :=
  if l.mem.loadTake = some l.vit.hdr.takeNum then l
  else
    let l := l.shadowPortion id i set
    { l with mem := { l.mem with loadTake := some l.vit.hdr.takeNum } }

/-- The lane is in idle time, outside X to L and D to the take start (R36). -/
def State.idleLane (s : State) (x : Lane) : Bool :=
  x.evaluates && x.idle && decide ((s.take.point = .rushed ∧ x.fab.phase = .p5) ∨ (s.take.point = .latched ∧ x.fab.phase = .p6))

/-! ### Commit -/

/-- The force and blocking table after a commit, and the entries dropped (R299): `old` and `new` give the personality of an
element before and after. -/
def dropForces (set : BitVec 16) (old new : Elem → BitVec 4) (take : Word) (l : List ForceEntry) :
    List ForceEntry × List ForceEntry :=
  let lost := l.filter fun e => bit set (regionOf e.target) && decide (e.type ≠ 6) && decide (old e.target ≠ new e.target)
  let kept := l.filter fun e => !lost.contains e
  let holds := lost.foldl (fun (k : List ForceEntry) e =>
    if k.any fun x => decide (x.target = e.target ∧ x.type = 6) then k
    else k ++ [{ target := e.target, type := 6, first := 0, width := 0, value := 0, take := take }]) kept
  (holds, lost)

/-- The personality code that the tiles give an element. -/
def persIn (l : List Tile) (e : Elem) : BitVec 4 :=
  match tileOf l e with
  | some t => cfgPersCode t.cfg
  | none => 0

/-- The shadow planes of a set and the shadow route table become active, with the tables of the images (R93, R520); latches
reload. -/
def Lane.swapPlanes (l : Lane) (id : LaneId) (chain : List Image) (set : BitVec 16) : Lane :=
  let l := l.onReg fun g =>
    { g with active := g.active ^^^ set, rtActive := !g.rtActive, shadow := g.shadow &&& ~~~set, rtShadow := false }
  Lane.reloadLatches { l with data := chainData chain } id

/-- The commit of a lane (R294, R299). -/
def Lane.commit (l : Lane) (id : LaneId) (chain : List Image) : Lane :=
  let set := l.vit.reg.spliceSet
  let before := l.fab.tiles
  let l := l.swapPlanes id chain set
  let take := l.vit.hdr.takeNum
  let r := dropForces set (persIn before) (persIn l.fab.tiles) take l.vit.force
  let l := l.onVit fun v =>
    { v with
      vec := l.vectors fun e c => if bit set (regionOf e) then coldValue c else vecOf v.vec e
      force := r.1
      reg := { v.reg with regEn := v.reg.regEn ||| v.reg.rstDis, rstDis := 0,
                          stage := .settling, settle := [] } }
  let l := r.2.foldl (fun l e => l.submit 0x49 (toBytes 2 (e.target.zeroExtend 16 : BitVec 16) ++ [e.type])) l
  l.spliceOutcome 0 8

/-- The commit of a splice is due in this take (R293). -/
def commitDue (v : Vital) : Bool :=
  let g := v.reg
  decide (g.stage = .loading ∨ g.stage = .checked ∨ g.stage = .scheduled) && g.sched
    && decide (g.commitTake = v.hdr.takeNum)

/-- What a lane does in the boundary work of the commit take (R293). -/
def Lane.spliceCommit (l : Lane) (id : LaneId) (chain : List Image) : Lane :=
  if ¬ commitDue l.vit then l
  else if l.vit.reg.stage ≠ .scheduled then
    let seq := (l.check.map (·.seq)).getD 0
    (l.reason seq 0x82 2 0).spliceFail seq
  else if ¬ l.spliceClear then (l.onReg fun g => { g with stage := .checked, commitTake := 0, sched := false }).spliceOutcome 0 5
  else l.commit id chain

/-- A copy of the staged image into the active area begins (R521, R522). -/
def openCopy (g : StgSt) (station : Bool) : StgSt :=
  { g with state := .inUse, use := .copy, copyOpen := true, copyStation := station, copyNext := 0,
           copyCnt := manBlocks g.manifest, copyDig := digest16 g.manifest, resumed := false }

/-- What the module shows of the active station image (R488). -/
def State.showImage (s : State) : State :=
  let m := newestManifest s.liveChain
  { s with sys := { s.sys with imgId := manImageId m, imgVersion := manVersion m }, vote := { s.vote with logDig := manLog m } }

/-- The commit in every lane that evaluates; a commit starts the copy of the partial image (R522), and CHECK_LATE is a reason (R279) and
sets the image free (R516). -/
def State.commitSplice (s : State) : State :=
  if ¬ commitDue s.voice.vit then s
  else
    match s.stagedImage with
    | none => (s.onLanes fun _ l => if l.evaluates then l.spliceFail 0 else l).freeStaging.mergeReports
    | some i =>
      let late := decide (s.voice.vit.reg.stage ≠ .scheduled)
      let chain := s.stg.station ++ [i]
      let s := s.onLanes fun id l => if l.evaluates then l.spliceCommit id chain else l
      let s := if late then s.latchReason.freeStaging else s
      let s := if s.voice.vit.reg.stage = .settling then State.showImage { s with stg := openCopy s.stg true } else s
      s.mergeReports

/-! ### The end of settling -/

/-- The edge links that R296 counts: (region, gateway). -/
def Lane.edgeLinks (l : Lane) : List (Region × BitVec 6) :=
  let g := l.vit.reg
  l.fab.tiles.flatMap fun t =>
    let e := cfgElem t.cfg
    if ¬ (bit g.spliceSet (regionOf e) ∧ Sys2Proof.Machine.regionOn g e) then []
    else Port.all.filterMap fun p =>
      let d := cfgPort t.cfg p
      match (if portLinked d then tileAt l.fab.tiles (portAddr d) else none) with
      | some q =>
        let f := cfgElem q.cfg
        if bit g.spliceSet (regionOf f) ∨ ¬ Sys2Proof.Machine.regionOn g f then none else some (BitVec.ofNat 4 (regionOf e), portGw d)
      | none => none

/-- Settling may end (R297). -/
def Lane.settled (l : Lane) : Bool :=
  let g := l.vit.reg
  let d := (l.vit.hdr.takeNum - g.commitTake).toNat
  decide (g.stage = .settling) && decide (64 ≤ d ∧ d < 2 ^ 31) && l.noticed
    && l.edgeLinks.all fun k => g.settle.any fun s => decide (s.1 = k.1 ∧ s.2.1 = k.2 ∧ s.2.2 = 2)

/-- The end of settling in a lane (R297). -/
def Lane.spliceSettled (l : Lane) : Lane :=
  if ¬ l.settled then l
  else
    let l := { l with noticed := false }
    (((l.onReg fun g => { g with regRestrict := g.regRestrict &&& ~~~g.spliceSet, stage := .none }).spliceOutcome 0 9).onReg fun g =>
      { g with spliceSet := 0, commitTake := 0, sched := false, settle := [] })

/-- The end of settling in every lane that evaluates; the coordinator removes the marker (R300). -/
def State.settleSplice (s : State) : State :=
  if ¬ s.voice.settled then s
  else
    let s := s.onLanes fun _ l => if l.evaluates then l.spliceSettled else l
    State.mergeReports { s with stg := { s.stg with marker := none } }

/-! ### Service load and its commit (R525, R528) -/

/-- The commit of a service load in a lane (R528): all planes and the route table swap, every tile takes its cold-restart value, R299
applies to every force and blocking, and REG_EN follows R476. -/
def Lane.serviceCommit (l : Lane) (id : LaneId) (img : Image) : Lane :=
  let before := l.fab.tiles
  let l := l.swapPlanes id [img] 0xFFFF
  let r := dropForces 0xFFFF (persIn before) (persIn l.fab.tiles) l.vit.hdr.takeNum l.vit.force
  let l := l.onVit fun v =>
    { v with
      vec := l.vectors fun _ c => coldValue c
      force := r.1
      reg := { v.reg with regEn := l.usedRegions &&& ~~~l.disabled &&& ~~~v.reg.regRestrict } }
  r.2.foldl (fun l e => l.submit 0x49 (toBytes 2 (e.target.zeroExtend 16 : BitVec 16) ++ [e.type])) l

/-- An activation aborts in this unit (R526, R528, R531): staging returns to STAGED, and a service load ends. -/
def State.abortActivation (s : State) (cause : Byte) : State :=
  let g := s.stg
  State.raise { s with
    stg := { g with
      phase := .aborted, cause := cause, service := .none, prepared := false, local_ := false
      state := if g.use = .activation then .staged else g.state, use := if g.use = .activation then .none else g.use } } .stg 4

/-- The shadow planes of a service load are dropped in every lane (R110). -/
def State.dropShadow (s : State) : State :=
  s.onLanes fun _ l => if l.evaluates then l.onReg fun g => { g with shadow := 0, rtShadow := false } else l

/-- A service load that is in hand ends in every lane, with its check and the content of its shadow planes (R109, R110). -/
def State.dropService (s : State) : State :=
  if s.stg.service = .none then s
  else s.dropShadow.onLanes fun _ l => { l with check := if l.checksShadow then none else l.check }

/-- The running take is the last that starts before ACT_ROUND of a committed STATION_SERVICE activation (R528). -/
def State.serviceDue (s : State) : Bool :=
  let t := s.take
  decide (s.stg.phase = .commit) && decide (s.stg.kind = 1) && decide (t.start.round.toNat < s.stg.round.toNat)
    && decide (s.stg.round.toNat ≤ t.start.round.toNat + t.nCur.toNat)

/-- A STATION_SERVICE commit (R528): refused with LIVE_ROUTE while a route is live, and with REFUSED_CHECK where a shadow plane has
become invalid since (R99). -/
def State.commitService (s : State) : State :=
  if ¬ s.serviceDue then s
  else
    match s.stagedImage with
    | none => (s.dropService.abortActivation 5).raise .sys 6
    | some i =>
      if s.stg.service ≠ .passed then (s.dropService.abortActivation 5).raise .sys 6
      else if liveRoutes s.voice.vit ≠ [] then (s.dropService.abortActivation 8).raise .sys 6
      else
        let s := s.onLanes fun id l => if l.evaluates then l.serviceCommit id i else l
        let s := State.showImage { s with stg := openCopy { s.stg with phase := .done, service := .none, prepared := false } true }
        (s.raise .stg 5).mergeReports

/-! ### The end of the boundary work -/

/-- The indication of the take that waited for the rest of the boundary work. -/
def State.sayTake (s : State) : State :=
  match s.take.indOld with
  | some old => State.indTake { s with take := { s.take with indOld := none } } old
  | none => s

/-- What the boundary work of a take still owes before the next take starts: a commit and an end of settling that are due (R36,
R93, R297), and the commit of an activation (R528). -/
def State.boundaryEnd (s : State) : State :=
  if s.take.point = .deadline ∧ s.sys.mode.runs then s.commitSplice.settleSplice.commitService.sayTake else s

/-- The boundary work still owes a commit or an end of settling. -/
def State.endDue (s : State) : Bool := commitDue s.voice.vit || s.voice.settled || s.serviceDue

/-- The indication of the take waits for the rest of the boundary work (R648), or goes out at once. -/
def State.laterTake (s : State) (old : List (Elem × TileVec)) : State :=
  if s.endDue then { s with take := { s.take with indOld := some old } } else s.indTake old

/-- The indication that waited goes out once nothing is due any more. -/
def State.sayIfDone (s : State) : State := if s.endDue then s else s.sayTake

/-! ### Meanings -/

/-- CHECK_SLICE (R273 to R276): the slice of this take in every lane that runs a check and is in idle time. -/
def execCheckSlice (s : State) : Answer :=
  let chain := s.liveChain
  let staged := s.stagedImage
  let reloc := s.anyRelocated
  .next (s.onLanes fun id l => if s.idleLane l then l.checkSlice id chain staged reloc else l)

/-- SHADOW_LOAD (R291, R525): the portion of this take, in the lane's idle time. -/
def execShadowLoad (lane : LaneId) (s : State) : Answer :=
  match s.loadSet, s.stagedImage with
  | some set, some i => .next (s.onLane lane fun l => if s.idleLane l then l.shadowLoad lane i set else l)
  | _, _ => .next s

/-- SPLICE_COMMIT (R293, R294): in the boundary work, which the commit follows the checkpoint in. -/
def execSpliceCommit (s : State) : Answer :=
  .next (if s.take.point = .deadline ∧ s.sys.mode.runs then s.commitSplice.sayIfDone else s)

/-- SPLICE_SETTLED (R297): in the boundary work. -/
def execSpliceSettled (s : State) : Answer :=
  .next (if s.take.point = .deadline ∧ s.sys.mode.runs then s.settleSplice.sayIfDone else s)

end Sys2Proof.Machine
end

