-- ==== Sys2Proof/Machine/Lanes.lean ====
section
/-! DEFINITION. Lanes out of voting: shutdown for a wrap test (R240, R411, R565), recovery (R236), debug (R248 to R252), and the
meanings of LOCKSTEP_BREAK, DEBUG_REQUEST, DEBUG_DETACH and LANE_RECOVERY_READY. -/

namespace Sys2Proof.Machine

open Sys2Proof

/-- A wrap test starts (R565, R579, R586), with one record. -/
def State.startWrap (s : State) (why : WrapWhy) (lane : LaneId) : State :=
  let one := decide (why = .lane)
  let s := { s with
    wrap := { s.wrap with
      running := true, why := why, lane := lane, slice := 0, data := 0, chk := 0
      runs := if one then s.wrap.runs else [], failing := if one then s.wrap.failing else [] }
    pair := { s.pair with wrapLane := if one then BitVec.ofNat 2 (lane.num + 1) else s.pair.wrapLane } }
  let lanes := if one then [lane] else LaneId.all
  let s := lanes.foldl (fun s l => s.onLane l fun x => { x with wrap := { x.wrap with runs := [], failing := [] } }) s
  let s := s.record 5 0x2B [if one then BitVec.ofNat 8 lane.num else Config.moduleLane, 0]
  (s.raise .wrap 0).raiseIf (decide (why = .boot)) .wrap 7

/-- A lane shuts down in order and runs its wrap test (R240, R411, R242). -/
def State.shutLane (s : State) (l : LaneId) (cause : Option Byte) : State :=
  let old := s
  let s := if (s.lane l).evaluates then s.laneLeaves l else s
  let s := s.onLane l fun x =>
    { x.onStat fun t =>
        { t with ready := false, reload := true, resetReq := false, wrapReq := false
                 cause := cause.getD t.cause, causeTake := if cause.isSome then s.take.num else t.causeTake } with rx := [] }
  ((s.setLaneState l .shutdown).switched old).startWrap .lane l

/-- The lane is to be held (R240). -/
def LaneStat.mustHold (t : LaneStat) (take : Word) : Bool :=
  decide (t.failCnt = 3) || decide (6 ≤ (t.exclTakes.filter fun k => decide ((take - k).toNat < 65536)).length)

/-- An EXCLUDED lane that must be held shuts down and stays down (R240). -/
def State.holdLane (s : State) (l : LaneId) : State :=
  let t := (s.lane l).stat
  if t.state = .excluded ∧ t.mustHold s.take.num ∧ ¬ t.held ∧ ¬ s.wrap.running then
    ((s.onLane l fun x => x.onStat fun t => { t with held := true }).raise .lane 3).shutLane l none
  else s

/-- LANE_RESET acts (R240, R252, R548): a held lane starts at step 1 of R236; a lane excluded for DEBUG may recover. -/
def State.resetLane (s : State) (l : LaneId) : State :=
  let t := (s.lane l).stat
  if t.state = .shutdown then
    (s.onLane l fun x => x.onStat fun t =>
      { t with held := false, failCnt := 0, exclTakes := [], resetReq := true, reload := true, domainOn := true,
               wokenAt := none }).setLaneState l .excluded
  else s

/-- The lane may recover (R236, R252): EXCLUDED, supplied and not held by a debugger. -/
def Lane.mayRecover (l : Lane) : Bool :=
  decide (l.stat.state = .excluded) && l.stat.domainOn && !l.stat.dbg && !l.thermal && decide (l.rails = 0xF)
    && (decide (l.stat.cause ≠ 0x08) || l.stat.resetReq)

/-- Step 2 of R236: code and active planes from the active area, verified under R105 and R520. -/
def Lane.reloadFrom (l : Lane) (id : LaneId) (chain : List Image) : Lane :=
  let l := l.load id chain
  l.noteVerify (l.verified id) (l.chainOk chain && !l.relocMissing id)

/-- Step 3 of R236: the lane restores its own state from its newest checkpoint where record 11 is the recomputed digest and the one that
the voter recorded for that take; otherwise the slot is discarded, and the lane has no state of its own. The planes stand as they are
(log 23). -/
def Lane.restore (l : Lane) (recorded : Option (Word × Quad)) : Lane :=
  let keep := fun (v : Vital) => { v with reg := { v.reg with active := l.vit.reg.active, rtActive := l.vit.reg.rtActive } }
  match l.newest with
  | some k =>
    if recorded = some (k.vital.hdr.takeNum, vitalDigest k.vital) ∧ k.digest = vitalDigest k.vital then { l with vit := keep k.vital }
    else
      let l := if l.ckptLast then { l with ckptB := none } else { l with ckptA := none }
      { l with vit := keep Vital.reset }
  | none => { l with vit := keep Vital.reset }

/-- LANE_RECOVERY_READY (R236): steps 1 to 4; the reset of the cores releases their locks (R557). A lane whose reload does not verify does not become ready. -/
def execLaneRecoveryReady (lane : LaneId) (s : State) : Answer :=
  let chain := s.liveChain
  if ¬ (s.lane lane).mayRecover ∨ (s.wrap.running ∧ s.wrap.lane = lane) then .next s
  else
    .next (State.onLane (State.releaseLocks { s with free := s.free + 3 } (BitVec.ofNat 3 (lane.num + 1))) lane fun x =>
      let x := if x.stat.reload then x.reloadFrom lane chain else x
      if x.stat.reload ∧ ¬ x.passed then x
      else (x.restore (s.vote.slotDig.get lane)).onStat fun t =>
        { t.halt.resume s.free with ready := true, reload := false, resetReq := false })

/-- The lockstep of a lane is in force: its cores run or wait together (R248, R258). -/
def Lane.lockstep (l : Lane) : Bool := l.evaluates || l.stat.running || l.stat.waiting

/-- A break (R248): both cores are reset, and the write under comparison is discarded. A lane that evaluates is excluded; one that is
EXCLUDED already takes the cause and is no longer ready. -/
def State.breakLane (s : State) (l : LaneId) (cause : Byte) (rule : Nat) : State :=
  let s := s.raiseIf (s.lane l).lockstep .lane 4
  if (s.lane l).evaluates then s.excludeLane l cause rule
  else if (s.lane l).stat.state = .excluded then
    (s.onLane l fun x => x.onStat fun t => { t.halt with ready := false, cause := cause, causeTake := s.take.num }).releaseLocks
      (BitVec.ofNat 3 (l.num + 1))
  else s

/-- LOCKSTEP_BREAK (R248, R243). -/
def execLockstepBreak (lane : LaneId) (s : State) : Answer :=
  if (s.lane lane).lockstep then .next (s.breakLane lane 0x07 243) else .next s

/-- DEBUG_REQUEST (R249, R250, R251, R252). A lane that is EXCLUDED already is EXCLUDED with cause DEBUG from then on. -/
def execDebugRequest (lane : LaneId) (s : State) : Answer :=
  if s.sys.mode ≠ .commissioning then
    let s := { s with vote := { s.vote with dbgRefused := satInc s.vote.dbgRefused } }
    .next ((s.raise .lane 6).record 5 0x2A [BitVec.ofNat 8 lane.num, 1])
  else if (s.lane lane).stat.dbg then .next s
  else
    let s := s.onLane lane fun x => x.onStat fun t => { t with dbg := true, resetReq := false, ready := false }
    let s := (s.raise .lane 5).record 5 0x2A [BitVec.ofNat 8 lane.num, 0]
    .next (s.breakLane lane 0x08 251)

/-- DEBUG_DETACH (R252). -/
def execDebugDetach (lane : LaneId) (s : State) : Answer :=
  .next (s.onLane lane fun x => x.onStat fun t => { t with dbg := false })

end Sys2Proof.Machine
end

