-- ==== Sys2Proof/Machine/Rounds.lean ====
section
/-! DEFINITION. Network time as the commands fix it (R22, R25), and what the start of a round does to what the module keeps of a
round: guardian, slates, handover (R307, R326), frames seen (R397, R402). -/

namespace Sys2Proof.Machine

open Sys2Proof

/-- A flag of NET_FLAGS is set, with its NET record (R348, R498); `ring` is 1 for ring A, 2 for ring B, 0 for neither (log 26). -/
def State.netFlag (s : State) (i : Nat) (ring : Nat) : State :=
  (s.raise .net i).record (if ring = 0 then 5 else BitVec.ofNat 4 ring) 0x50 [BitVec.ofNat 8 i, BitVec.ofNat 8 ring]

/-- As `netFlag`, where the condition holds. -/
def State.netFlagIf (s : State) (c : Bool) (i : Nat) (ring : Nat) : State := if c then s.netFlag i ring else s

/-! ### Rings and streams -/

/-- The state of a ring. -/
def NetSt.ring (n : NetSt) : Ring → RingSt
  | .a => n.ringA
  | .b => n.ringB

/-- The state of a ring changed. -/
def State.onRing (s : State) (r : Ring) (f : RingSt → RingSt) : State :=
  match r with
  | .a => { s with net := { s.net with ringA := f s.net.ringA } }
  | .b => { s with net := { s.net with ringB := f s.net.ringB } }

/-- A stream of a ring: the reverse stream where `rev` holds. -/
def RingSt.stream (x : RingSt) (rev : Bool) : StreamSt := if rev then x.rev else x.fwd

/-- A stream of a ring changed. -/
def RingSt.onStream (x : RingSt) (rev : Bool) (f : StreamSt → StreamSt) : RingSt :=
  if rev then { x with rev := f x.rev } else { x with fwd := f x.fwd }

/-- A stream is received and in use (R345). -/
def RingSt.inUse (x : RingSt) (rev : Bool) : Bool := (x.stream rev).use

/-- The stream of a ring that gives network time is the reverse one (R328): of those in use, that with the lower path delay, and the
forward stream on equality. -/
def RingSt.timeRev (x : RingSt) : Bool := x.rev.use && (!x.fwd.use || decide (x.rev.path.toNat < x.fwd.path.toNat))

/-- The longest path delay of a stream in use, in ns (R310). -/
def pathLimit : Nat := 600000

/-- A stream ends (R306): it is not received, and its grid is lost. -/
def StreamSt.lost (x : StreamSt) : StreamSt := { x with use := false, slates := 0, grid := false }

/-- The node has no grid on any stream: it listens, backs off or has lost its integration (R316). -/
def NetSt.noGrids (n : NetSt) : NetSt :=
  let f := fun (x : StreamSt) => { x with grid := false }
  { n with ringA := { n.ringA with fwd := f n.ringA.fwd, rev := f n.ringA.rev }
           ringB := { n.ringB with fwd := f n.ringB.fwd, rev := f n.ringB.rev } }

/-- A stream that has brought no slate in 3 whole rounds is no longer received (R345). R306 says when a stream is used again and R345
that FWD and REV show a stream that is received; that 3 rounds tell so is DEDUCED from R331 (log 112). -/
def StreamSt.age (x : StreamSt) (round : BitVec 40) : StreamSt :=
  if x.use ∧ x.last.toNat + 4 ≤ round.toNat then { x with use := false, slates := 0 } else x

/-- The streams of a ring when a round begins. -/
def RingSt.age (x : RingSt) (round : BitVec 40) : RingSt := { x with fwd := x.fwd.age round, rev := x.rev.age round }

/-- What a round leaves behind when `round` begins, `k` rounds later; the counters show their counts once a round (R343). -/
def NetSt.nextRound (n : NetSt) (round : BitVec 40) (k : Nat) : NetSt :=
  { n with
    ringA := n.ringA.age round, ringB := n.ringB.age round
    guardRun := 0, guardFrom := none, holderSeenPrev := n.holderSeen && decide (k = 1), holderSeen := false
    rounds := n.rounds + k, noFrame := n.noFrame + k, ofsValid := false
    shown := [n.ringA.rxOk, n.ringB.rxOk, n.ringA.crcErr, n.ringB.crcErr, n.ringA.winRej, n.ringB.winRej, n.ringDiff, n.slateMiss,
              n.silentCnt, n.guardBlk] }

/-! ### The slots of the module -/

/-- The role that the module holds for its slots (R315): lead 1, second 2, witness 3, none 0. -/
def State.slotRole (s : State) : BitVec 2 :=
  if s.sys.mode = .witness then 3 else match s.sys.role with | .lead => 1 | .second => 2 | .none => 0

/-- The rings on which the call sheet and the module's role let it send in a slot (R320); none where the slot is not its own. -/
def State.roleRings (s : State) (e : BitVec 64) : List Ring :=
  if csSmode e = 1 then (if csSender e = s.net.node then [.a, .b] else [])
  else if csSmode e = 2 then (if field (csSender e) 0 2 = s.slotRole then [.a, .b] else [])
  else if csSmode e = 3 ∧ s.sys.mode ≠ .witness then
    (if s.pair.partner.toNat < s.net.node.toNat ∧ s.pair.partner ≠ 0 then [.b] else [.a])
  else []

/-- The guardian loads its copy of the node's slots: when the node integrates, and at a change of its role (R332). -/
def State.loadGuard (s : State) : State :=
  { s with net := { s.net with guard := (s.voice.data.callSheet.filter fun e => decide (s.roleRings e ≠ [])).map csSlot } }

/-- The guardian enables insertion in a slot (R332): it is in its copy, and not the slot in which its role was gained; while the
node is starter, slot 0 too. -/
def State.guardAdmits (s : State) (slot : BitVec 12) : Bool :=
  (s.net.guard.contains slot && decide (s.net.guardFrom ≠ some slot)) || (decide (slot = 0) && s.net.starter && s.net.master)

/-- The rings on which the module sends in a slot (R320, R332, R335): those of its roles where the guardian admits the slot; a
starter sends in slot 0 on both. -/
def State.ownRings (s : State) (e : BitVec 64) : List Ring :=
  if ¬ s.guardAdmits (csSlot e) then []
  else if csSlot e = 0 ∧ s.net.starter ∧ s.net.master then [.a, .b]
  else s.roleRings e

/-! ### Rounds -/

/-- A node becomes primary time master and terminates its streams (R304, R307): the round's reference is its own, of slot 0 (R344). -/
def NetSt.takeOver (n : NetSt) : NetSt :=
  { n with master := true, terminating := true, handover := none, primary := n.node, slateSrc := 0 }

/-- The former primary time master: it terminates until slot 400 (R307). -/
def NetSt.yield (n : NetSt) (next : NodeId) : NetSt := { n with master := false, handover := none, primary := next }

/-- `k` rounds pass: WRAP_AGE counts hours of 351,562.5 rounds (R405). -/
def PairSt.ageWrap (p : PairSt) (k : Nat) : PairSt :=
  let n := p.wrapPart + 2 * k
  { p with wrapPart := n % 703125, wrapAge := satAdd p.wrapAge (n / 703125) }

/-- Round `round` begins, `k` rounds after the last one in which something happened. A loss of the partner ends with the round in
which it is seen again (R397). -/
def State.newRound (s : State) (round : BitVec 40) (k : Nat) : State :=
  let p := s.pair.ageWrap (if s.net.sync = .integrated then k else 0)
  let s := { s with
    net := s.net.nextRound round k
    pair := { p with
      seenA := p.nowA && decide (k = 1), seenB := p.nowB && decide (k = 1), nowA := false, nowB := false, nowEarly := false
      lost := p.lost && p.unseen, witRounds := p.witRounds + k } }
  match s.net.handover with
  | some r =>
    if r.toNat ≤ round.toNat then
      State.netFlag { s with net := if s.net.master then s.net.yield s.pair.witHolder else s.net.takeOver } 9 0
    else s
  | none => s

/-- Network time comes to `t`. -/
def State.reach (s : State) (t : NetTime) : State :=
  if s.now.round = t.round then { s with now := t }
  else State.newRound { s with now := t } t.round (t.round.toNat - s.now.round.toNat)

/-- Network time comes to `t`, unless it has passed. -/
def State.reachTime (s : State) (t : NetTime) : State := if s.now.ticks < t.ticks then s.reach t else s

/-- The start of P0 and B after a take start, in ticks: 16 slots, 40 us (R27, R32). -/
def rushTicks : Nat := 16 * 250

/-- The time of a slot that a command names: the next instant at which that slot begins; a slot that lies at most 256 slots back is
one of the running round, or of the round before, whose frame is late on its ring. DESIGN CHOICE (log 27). -/
def State.slotTime (s : State) (slot : BitVec 12) : NetTime :=
  let back := (s.now.slot - slot).toNat
  if back = 0 then { s.now with tick := 0 }
  else if back ≤ 256 then
    { round := if slot.toNat < s.now.slot.toNat then s.now.round else s.now.round - 1, slot := slot, tick := 0 }
  else { round := if slot.toNat < s.now.slot.toNat then s.now.round + 1 else s.now.round, slot := slot, tick := 0 }

/-- Network time comes to a slot, unless that slot lies back. -/
def State.reachSlot (s : State) (slot : BitVec 12) : State :=
  let t := s.slotTime slot
  if s.now.ticks ≤ t.ticks then s.reach t else s

end Sys2Proof.Machine
end

