-- ==== Sys2Proof/Machine/Take.lean ====
section
/-! DEFINITION. The take up to L (01): its start (R24, R35, R50, R444, R474), wave steps and the timers that run in them, X (R32,
R33, R40 to R42, R386, R387), L (R34, R388, R399, R418, R481), and B (R41). -/

namespace Sys2Proof.Machine

open Sys2Proof

/-! ### Time limits (R32, R40, R42) -/

/-- Nanoseconds of a take of `n` rounds. -/
def takeNs (n : BitVec 6) : Nat := n.toNat * 10240000

/-- The evaluation window A of a take of `n` rounds, in ns. -/
def windowNs (n : BitVec 6) : Nat := takeNs n - 3540000

/-- A time judged against a check point that fires within 25 us of its nominal time (R40, R42): met, overrun, or, in the band
between, as the `k`-th free value has it. -/
def judged (ns limit k : Nat) : Bool :=
  if ns + 25000 < limit then true else if limit + 25000 < ns then false else Config.coincide k

/-- The lanes that overrun a check point: those `quiet` does not hold of, or whose time `ns` is judged late. Each judged lane takes
a free value of its own. -/
def State.overrunning (s : State) (quiet : Lane → Bool) (ns : Lane → Nat) (limit : Nat) : List LaneId :=
  LaneId.all.filter fun l =>
    let x := s.lane l
    x.evaluates && !(quiet x && judged (ns x) limit (s.free + l.num))

/-- Overruns at a check point (R41, R57, R66): counted, recorded, and excluded together. `point` is 0 X, 1 D, 2 B, and `num` the
take of the check point. Of several lanes that overrun at one check point, each at an instant of its own (R40), the rules name
no last one; they are entered in the order A, B, C. DESIGN CHOICE (log 106). -/
def State.overrun (s : State) (ls : List LaneId) (point : Nat) (num : Word) (phase : Lane → Nat) : State :=
  let s := ls.foldl (fun (s : State) l =>
    let w : Word := place 32 0 (BitVec.ofNat 2 l.num) ||| place 32 2 (BitVec.ofNat 2 point)
      ||| place 32 4 (BitVec.ofNat 3 (phase (s.lane l))) ||| place 32 16 (field num 0 16)
    let s := { s with take := { s.take with ovrCnt := satInc s.take.ovrCnt, ovrLast := w } }
    (s.raise .adapt 4).record 0 0x23 (toBytes 4 w)) s
  s.excludeLanes ls 0x04 41

/-! ### TAKE_START -/

/-- A module wrap runs (R566). -/
def State.moduleWraps (s : State) : Bool := s.wrap.running && decide (s.wrap.why ≠ .lane)

/-- A module that runs takes, or follows the lead's state in INTEGRATING (R417, R418). -/
def State.takesRun (s : State) : Bool :=
  !s.moduleWraps && (s.sys.mode.runs || (decide (s.sys.mode = .integrating) && s.pair.loaded))

/-- Takes stop: telegrams and field outputs cease at once. -/
def State.stopTakes (s : State) : State :=
  let old := s
  let s := s.mergeReports.onLanes fun _ l =>
    let l := if l.evaluates then l.onStat fun t => { t.rest with joins := false } else l
    { l with fab := { l.fab with running := false }, eff := { payloads := [], pins := 0 }, check := none, txBuf := [] }
  let s := { s with
    sys := { s.sys with vitalEn := false, modePend := none, settling := false }
    take := { s.take with ran := false, point := .idle, indOld := none }
    fio := { s.fio with enable := false, cmd := Three.rep 0 }
    pair := { s.pair with sending := false, paired := false } }
  s.switched old

/-- The module shuts down in order (R528, R529, R565, R566): it withholds, ends its takes and runs the module wrap. -/
def State.orderly (s : State) (why : WrapWhy) : State :=
  let s := s.wrapAbandon.stopTakes
  State.startWrap { s with
    pair := { s.pair with withhold := true }
    stg := { s.stg with restartDue := false, service := .none } } why .a

/-- A grant has decided a restart that starts the installation (R472, R474). -/
def State.startsFirst (s : State) : Bool :=
  decide (s.sys.mode = .integrating) && s.pair.startReq && s.net.master && !s.pair.loaded

/-- The pending length comes into effect (R50, R48, R57). -/
def State.changeLength (s : State) (round : BitVec 40) : State :=
  let t := s.take
  if t.nPend ≠ 0 ∧ t.pendRound.toNat ≤ round.toNat then
    let longer := decide (t.nCur.toNat < t.nPend.toNat)
    let cfg := s.voice.data.nCfg
    let s : State := { s with
      take := { t with nCur := t.nPend, nPend := 0, pendRound := 0, atMax := false,
                       low := if longer then 0 else t.low, lenCnt := if longer then satInc t.lenCnt else t.lenCnt } }
    let s := (s.raiseIf longer .adapt 1).raiseIf (decide (s.take.nCur = cfg ∧ t.nCur ≠ cfg)) .adapt 3
    s.record 0 0x21 ([t.nCur.zeroExtend 8, t.nPend.zeroExtend 8] ++ toBytes 4 s.take.num)
  else s

/-- The take header of every lane that evaluates (R233). -/
def State.setHeaders (s : State) : State :=
  let t := s.take
  s.onVital fun v =>
    { v with hdr := { v.hdr with takeNum := t.num, nCur := t.nCur, nPend := t.nPend, pendRound := t.pendRound, start := t.start,
                                 role := s.sys.role } }

/-- The command bits that a lane gives (R444): its latched bits under the output enable. A lane that no longer evaluates gives
none (R230). -/
def laneCommand (enable : Bool) (l : Lane) : BitVec 48 :=
  if enable ∧ l.evaluates then l.eff.pins &&& enabledPins l.vit.reg.grpEn else 0

/-- The outputs of the last take take effect (R35, R444, R445, R456, R458); each channel that switches is an event of the field
counters. -/
def State.applyOutputs (s : State) : State :=
  let old := s
  let ran := s.take.ran
  let s := s.onLanes fun _ l => if ran ∧ l.evaluates then { l with eff := l.vit.latch } else { l with eff := { payloads := [], pins := 0 } }
  let sending := ran && bit s.pair.outWord 5
  let enable := s.sys.mode.runs && (decide (s.sys.role = .lead) || sending) && !s.pair.withhold
  let f := s.fio
  let s := { s with
    pair := { s.pair with sending := sending && s.sys.mode.runs, paired := ran && bit s.pair.outWord 4 }
    fio := { f with
      enable := enable
      cmd := { a := laneCommand enable s.laneA, b := laneCommand enable s.laneB, c := laneCommand enable s.laneC }
      groups := f.groups.map fun (g : GroupSt) => { g with held := g.sag }
      silent := f.silent && !f.resume, resume := f.resume && !f.silent
      pins := f.pins.map fun (p : PinSt) => { p with reading := { p.reading with pin := 0 } } } }
  s.switched old

/-- SUPPRESSED records that are due at a take start (R503). -/
def State.suppressed (s : State) : State :=
  s.reel.buckets.foldl (fun (s : State) b =>
    if b.supp ≠ 0 ∧ (b.lastAt.ticks + secondTicks ≤ s.now.ticks ∨ b.supp = BitVec.allOnes 24) then
      let s := { s with reel := onBucket s.reel b.code fun k => { k with supp := 0 } }
      s.record 5 0x02 ([b.code] ++ toBytes 3 b.supp ++ toBytes 4 b.first ++ toBytes 4 b.last)
    else s) s

/-- What every take start does once number, length and start are set. `marked`: the slate marks this start (R51). -/
def State.openTake (s : State) (marked : Bool) : State :=
  let s := s.setHeaders.applyOutputs
  let s := s.onLanes fun _ l => { l.onStat fun t => { t with joins := false } with snap := false }
  let t := s.take
  let s := { s with
    take := { t with point := .started, follows := marked, first := !(t.follows && marked && t.ran) }
    fio := { s.fio with snapOk := false, snapBad := false }
    pair := { s.pair with ownDig := none, partDig := [], agreeSent := false, agreeRcvd := none }
    sys := { s.sys with settleLeft := s.sys.settleLeft - 1 } }
  s.reelFlush.suppressed

/-- The first take after a restart under R472 (R474): number from the round, N_cfg rounds, as LEAD in the mode that MODE_SEL
holds. -/
def State.firstTake (s : State) (round : BitVec 40) : State :=
  let s := s.restartStation
  let n := s.voice.data.nCfg
  let s := { s with
    sys := { s.sys with role := .lead, settleLeft := if s.sys.settling then s.sys.settleLeft + 1 else 0 }
    pair := { s.pair with startReq := false }
    take := { s.take with num := field round 0 32, start := NetTime.atRound round, nCur := n, nPend := 0, pendRound := 0,
                          ownReq := n, partReq := none, partNew := false, ran := false, follows := false, boundDue := false } }
  let s := (s.setMode (if s.sys.commissioning then Mode.commissioning else Mode.vital)).settleMode 11 Config.moduleLane
  if s.sys.mode.runs then s.loadGuard.openTake true else s

/-- The slate by which a module that is not LEAD takes its take boundary (R25): that of the round, where it marks a take start. -/
def State.slateStart (s : State) (round : BitVec 40) (marked : Bool) : Option Slate :=
  if s.sys.role = .lead ∨ ¬ marked then none else s.net.lastSlate.filter fun x => decide (x.round = round) && bit x.flags 0

/-- A round starts a take of the module (R23, R25): N_k rounds after the start of take k, or where the lead's slate marks it. -/
def State.startsTake (s : State) (round : BitVec 40) (marked : Bool) : Bool :=
  decide (round = s.take.start.round + s.take.nCur.zeroExtend 40) || (s.slateStart round marked).isSome

/-- A take length of a slate that the module may run (R26). -/
def State.lengthOk (s : State) (n : Byte) : Bool :=
  decide (s.voice.data.nCfg.toNat ≤ n.toNat ∧ n.toNat ≤ s.voice.data.nMax.toNat)

/-- The pending change that a slate shows (R25, R26, R50). -/
def State.followPending (s : State) (x : Slate) : State :=
  if x.nPend = 0 then { s with take := { s.take with nPend := 0, pendRound := 0 } }
  else if s.lengthOk x.nPend then { s with take := { s.take with nPend := field x.nPend 0 6, pendRound := x.pendRound } }
  else s

/-- A take whose start the slate marks takes number, length and pending change from it (R25). A length outside N_cfg to N_max is not
taken (R26). -/
def State.followStart (s : State) (round : BitVec 40) (x : Slate) : State :=
  let s := { s with take := { s.take with num := x.takeNum, start := NetTime.atRound round } }
  let n : BitVec 6 := field x.nCur 0 6
  let s := if s.lengthOk x.nCur ∧ n ≠ s.take.nCur then
      State.changeLength { s with take := { s.take with nPend := n, pendRound := round } } round
    else s
  s.followPending x

/-- Any other take (R24, R25). -/
def State.nextTake (s : State) (round : BitVec 40) (marked : Bool) : State :=
  match s.slateStart round marked with
  | some x => (s.followStart round x).openTake true
  | none =>
    let s := { s with take := { s.take with num := s.take.num + 1, start := NetTime.atRound round } }
    (s.changeLength round).openTake (decide (s.sys.role = .lead))

/-- TAKE_START: slot 0 of the first round of a take (R23). `marked` says that the slate of the round has come to mark it (R25); without
it the module counts rounds. A round that starts no take of the module changes nothing, and neither does a start before D of the running
take. -/
def execTakeStart (round : BitVec 40) (marked : Bool) (s : State) : Answer :=
  if s.take.point ≠ .idle ∧ s.take.point ≠ .deadline then .next s
  else if s.takesRun ∧ ¬ s.startsFirst ∧ ¬ s.startsTake round marked then .next s
  else
    let s := s.boundaryEnd.reachTime (NetTime.atRound round)
    if s.stg.restartDue ∧ s.takesRun then .next (s.orderly .activation)
    else if s.startsFirst then .next (s.firstTake round)
    else if s.takesRun then .next (s.nextTake round marked)
    else .next s

/-! ### RUSHES -/

/-- No snapshot was captured in this take: the field side is taken for dead, and every lane has missed its copy (R434, R463). -/
def State.missSnapshot (s : State) : State :=
  if s.fio.snapOk then s
  else
    let some_ := LaneId.all.any fun l => (s.lane l).evaluates
    State.raiseIf { s with fio := { s.fio with fsAlive := false, snapBad := some_ } } some_ .fio 8

/-- RUSHES (R27, R28): P0 begins, 16 slots after the take start. -/
def execRushes (s : State) : Answer :=
  if s.take.point ≠ .started then .next s
  else
    let s := (s.reachTime (s.take.start.plus rushTicks)).endSettle.missSnapshot
    let old := s
    let was := s.voice.vit.ses
    let s := s.withLanes Lane.evaluates (Lane.rushes s.cmdCtx s.take.held s.fio)
    let s := (State.freedBoxes old s).startService
    let now := s.voice.vit.ses
    let n := staleCount now
    let turned := now.any fun r => r.enabled && !r.fresh && (sesRecOf was r.ses).fresh
    let applied := (s.voice.vit.outcomes.filter fun o => decide (o.kind = .mailbox) && decide (o.code = 0)).length
    let s := { s with
      ses := { s.ses with staleNow := BitVec.ofNat 10 n }
      reel := { s.reel with daily := { s.reel.daily with stale := satAdd s.reel.daily.stale n } }
      take := { s.take with point := .rushed, held := [] } }
    let s := s.raiseIf turned .ses 4
    .next (LaneId.all.foldl (fun s l =>
      if (s.lane l).evaluates then
        s.countN (192 + 8 * l.num) 8 { code := 0x24, level := none, master := none, addr := none } applied
      else s) s)

/-! ### Wave steps and timers -/

/-- WAVE_STEP (R73 to R78): the lane's completion tree reports the step done after `ns` nanoseconds. With the first step of P0 the lane
examines the requests that it takes (R31, R183). -/
def execWaveStep (lane : LaneId) (ns : Nat) (s : State) : Answer :=
  let x := s.lane lane
  if ¬ x.evaluates then .next s
  else
    let r := laneStep (if x.inP0 then x.examineAll else x) s.sys.settling ns
    .next (r.2.foldl (fun (s : State) e =>
      s.countN (64 * lane.num + 4 * e.1) 4 { code := e.2.1, level := none, master := none, addr := none } e.2.2)
      (s.setLane lane r.1))

/-- TRACK_CLEAR_DELAY_EXPIRY (R140, R146, R150). -/
def execTrackClearDelayExpiry (e : Elem) (s : State) : Answer :=
  .next (s.onLanes fun _ l => expireP1 l e fun p v v' =>
    (decide (p = .track) && !ps v 0 && ps v' 0) || (decide (p = .point) && !ps v 6 && ps v' 6))

/-- BERTH_DELAY_EXPIRY (R140, R146). -/
def execBerthDelayExpiry (e : Elem) (s : State) : Answer :=
  .next (s.onLanes fun _ l => expireP1 l e fun p v v' => decide (p = .track) && !ps v 3 && ps v' 3)

/-- POINT_MOVE_TIMEOUT (R154). -/
def execPointMoveTimeout (e : Elem) (s : State) : Answer := .next (s.onLanes fun _ l => expireMove l e)

/-- PROVE_GRACE_EXPIRY (R158). -/
def execProveGraceExpiry (e : Elem) (s : State) : Answer := .next (s.onLanes fun _ l => expireGrace l e)

/-- CLOSE_SUPERVISION_EXPIRY (R163). -/
def execCloseSupervisionExpiry (e : Elem) (s : State) : Answer :=
  .next (s.onLanes fun _ l => expireP1 l e fun p v v' => decide (p = .doors) && !ps v 4 && ps v' 4)

/-- PERMISSION_DELAY_EXPIRY (R175). -/
def execPermissionDelayExpiry (e : Elem) (s : State) : Answer := .next (s.onLanes fun _ l => expireDelay l e)

/-- APPROACH_LOCKING_EXPIRY (R214). -/
def execApproachLockingExpiry (e : Elem) (s : State) : Answer := .next (s.onLanes fun _ l => expireApproach l e)

/-! ### X -/

/-- The lane has finished P0 to P5 (R32). -/
def Lane.settled5 (l : Lane) : Bool := decide (l.fab.phase = .p5) && l.fab.quiet && !l.fab.stuck

/-- The lead sends AGREE as soon as it holds an equal DIGEST of the second (R387); not to a demoted one (R407), and only on a
link that is up. -/
def State.tryAgree (s : State) : State :=
  let p := s.pair
  match p.ownDig with
  | some d =>
    if s.sys.role = .lead ∧ ¬ p.demoted ∧ p.linkUp ∧ ¬ p.agreeSent
        ∧ (s.take.point = .rushed ∨ s.take.point = .exchanged)
        ∧ (p.partDig.any fun e => decide (e.take = s.take.num ∧ e.digest = d)) then
      State.emit { s with pair := { p with agreeSent := true } } (.agree s.take.num d)
    else s
  | none => s

/-- The pair-agreement digest of a lane (R385, R386). -/
def State.lanePairDigest (s : State) (l : Lane) : Quad := pairDigest { l.vit with hdr := { l.vit.hdr with claim := s.pair.claim } }

/-- The module's pair-agreement digest, where all ACTIVE lanes agree on it (R386). -/
def State.agreedPair (s : State) : Option Quad :=
  match s.lanesWith Lane.active with
  | [] => none
  | l :: ls =>
    match (s.lane l).pairDig with
    | some d => if ls.all fun k => decide ((s.lane k).pairDig = some d) then some d else none
    | none => none

/-- The module sends its DIGEST (R33, R383). -/
def State.sendDigest (s : State) : State :=
  let s := s.onLanes fun _ l => { l with pairDig := if l.evaluates then some (s.lanePairDigest l) else none }
  match s.agreedPair with
  | some d =>
    (State.emit { s with pair := { s.pair with ownDig := some d, ownDigReg := d } } (.digest s.take.num s.pair.claim d)).tryAgree
  | none => { s with pair := { s.pair with ownDig := none } }

/-- The lanes whose pair-agreement digest is not ready at X (R386; DESIGN CHOICE, log 124). -/
def State.unready (s : State) : List LaneId := LaneId.all.filter fun l => Config.digestLate (s.free + l.num) && (s.lane l).evaluates

/-- EXCHANGE_POINT: X (R32, R33, R40 to R42). A lane whose digest is not ready counts as not quiescent (R386). -/
def execExchangePoint (s : State) : Answer :=
  if s.take.point ≠ .rushed then .next s
  else
    let t := s.take
    let s := s.reachTime (t.start.plus (t.nCur.toNat * roundTicks - 350000))
    let late := s.overrunning (fun l => l.settled5) (·.fab.settleNs) (windowNs t.nCur)
    let s := { s with free := s.free + 3 }
    let slow := LaneId.all.filter fun l => late.contains l || s.unready.contains l
    let s := State.overrun { s with free := s.free + 3 } slow 0 s.take.num (·.fab.phase.num)
    if s.takesRun then .next ({ s with take := { s.take with point := .exchanged } }).sendDigest else .next s

/-! ### L -/

/-- The partner's DIGEST that L considers, an equal one before any other (R388). -/
def State.partDigestAt (s : State) : Option PartDigest :=
  let p := s.pair
  let eq := fun (e : PartDigest) => decide (e.take = s.take.num) && decide (some e.digest = p.ownDig)
  match p.partDig.find? eq with
  | some e => some e
  | none => p.partDig.head?

/-- The partner's DIGEST is equal to the own one (R388); a DIGEST of another take differs. -/
def State.digestEqual (s : State) : Bool :=
  match s.partDigestAt with
  | some e => decide (e.take = s.take.num) && decide (some e.digest = s.pair.ownDig)
  | none => false

/-- The partner's DIGEST differs: both are present (R388). -/
def State.digestDiffers (s : State) : Bool := s.partDigestAt.isSome && s.pair.ownDig.isSome && !s.digestEqual

/-- The lead's DIGEST is equal on the pair link (R388). -/
def State.linkEqual (s : State) : Bool :=
  s.pair.linkUp && s.pair.partDig.any fun e =>
    decide (e.src = .link) && decide (e.take = s.take.num) && decide (some e.digest = s.pair.ownDig)

/-- AGREE for this take has been received (R388). -/
def State.agreeHeard (s : State) : Bool :=
  match s.pair.agreeRcvd, s.pair.ownDig with
  | some (t, d), some own => decide (t = s.take.num ∧ d = own)
  | _, _ => false

/-- The module may send its next latch at all (R389, R399, R402, R528). -/
def State.maySend (s : State) : Bool :=
  let p := s.pair
  p.usable && !(p.lost && p.unseen && !p.granted) && !(p.resigned && decide (s.sys.role = .lead)) && !p.withhold

/-- (PAIRED, SENDING) that L fixes (R388, R51, R399). -/
def State.outcomeAtL (s : State) : Bool × Bool :=
  match s.sys.role with
  | .lead => (s.digestEqual, s.maySend)
  | .second =>
    let ok := s.linkEqual && s.agreeHeard && !s.take.first && !s.pair.demoted && s.maySend
    (ok, ok)
  | .none => (false, false)

/-- PAIR_OUT (R422). -/
def State.pairOutWord (s : State) (paired sending : Bool) : Word :=
  let src : BitVec 2 := match s.partDigestAt with
    | none => 0
    | some e => match e.src with | .link => 1 | .ringA => 2 | .ringB => 3
  let agree := if s.sys.role = .lead then s.pair.agreeSent else s.agreeHeard
  place 32 0 src ||| ofBit 2 s.digestEqual ||| ofBit 3 agree ||| ofBit 4 paired ||| ofBit 5 sending
    ||| place 32 16 (field s.take.num 0 16)

/-- A flag of PAIR_FLAGS is set, with its PAIR record (R424, R498). -/
def State.pairFlag (s : State) (i : Nat) : State := (s.raise .pair i).record 3 0x52 ([BitVec.ofNat 8 i] ++ toBytes 4 s.take.num)

/-- As `pairFlag`, where the condition holds. -/
def State.pairFlagIf (s : State) (c : Bool) (i : Nat) : State := if c then s.pairFlag i else s

/-- The mode that a following module takes from the lead (R418, R469). -/
def leadMode (c : BitVec 4) : Mode := if Mode.ofCode c = .commissioning then .commissioning else .vital

/-- Mode changes at L (R481, R418). -/
def State.modeAtL (s : State) : State :=
  match s.sys.modePend with
  | some c =>
    (State.setMode { s with sys := { s.sys with modePend := none } } (if c then Mode.commissioning else Mode.vital)).settleMode 11 Config.moduleLane
  | none =>
    if s.sys.mode = .integrating ∧ s.pair.loaded then
      let eq := s.linkEqual
      let n := if eq then s.pair.equalRun + 1 else 0
      if 3 ≤ n then
        let m := leadMode s.pair.partMode
        let w := restartWord 3 0 s.sys.autoStart 0
        let s := { s with
          sys := { s.sys with role := .second, vitalEn := true, commissioning := decide (m = Mode.commissioning), restart := w }
          pair := { s.pair with equalRun := 0, equalReq := false, loaded := false, demoted := false }
          reel := { s.reel with daily := { s.reel.daily with restarts := satInc s.reel.daily.restarts } } }
        ((s.setMode m).loadGuard.record 5 0x11 (toBytes 4 w ++ toBytes 4 s.pair.claim)).settleMode 11 Config.moduleLane
      else { s with pair := { s.pair with equalRun := n, equalReq := s.pair.equalReq || !eq } }
    else s

/-- CLAIM, PAIRED, FORCE and SENDING of the next take are fixed in a lane (R358, R369), and P6 starts (R34). -/
def Lane.latchPoint (l : Lane) (comm paired sending : Bool) (role : Role) (claim : Word) : Lane :=
  let l := l.onVit fun v => { v with hdr := { v.hdr with claim := claim, role := role } }
  let l := l.onVit fun v =>
    { v with ses := v.ses.map fun r =>
        if r.enabled then
          { r with txTake := v.hdr.takeNum, txClaim := claim, force := comm || l.blocked r.ses, paired := paired, sending := sending }
        else r }
  if l.settled5 then l.onFab fun f => startPhase f .p6 else l

/-- LATCH_POINT: L (R32, R34, R388). -/
def execLatchPoint (s : State) : Answer :=
  if s.take.point ≠ .exchanged then .next s
  else
    let t := s.take
    let s := s.reachTime (t.start.plus (t.nCur.toNat * roundTicks - 300000))
    let (paired, sending) := s.outcomeAtL
    let w := s.pairOutWord paired sending
    let differs := s.digestDiffers
    let absent := s.partDigestAt.isNone || s.pair.ownDig.isNone
    let runs := s.sys.mode.runs
    let part := match s.partDigestAt with | some e => e.digest | none => s.pair.partDigReg
    let s := { s with pair := { s.pair with
      outWord := w, partDigReg := part, diffRun := if differs then s.pair.diffRun + 1 else 0 } }
    let s := s.modeAtL
    let s := ((s.pairFlagIf differs 1).pairFlagIf absent 2).pairFlagIf (runs && !sending) 3
    if s.takesRun then
      let comm := decide (s.sys.mode = .commissioning)
      let s := s.onLanes fun _ l =>
        if l.evaluates then l.latchPoint comm paired sending s.sys.role (if s.pair.usable then s.pair.claim else 0) else l
      .next { s with take := { s.take with point := .latched } }
    else .next s

/-! ### B -/

/-- The boundary work is done, and the running cores enter their wait (R245); where Continuity finds the code of its read data wrong, the
lockstep breaks (R247, R248). -/
def State.restCores (s : State) : State :=
  LaneId.all.foldl (fun (s : State) l =>
    let t := (s.lane l).stat
    if ¬ t.running then s
    else if t.replayOk then s.onLane l fun x => x.onStat LaneStat.rest
    else s.breakLane l 0x07 243) s

/-- BOUNDARY_POINT: B of the take that has ended, 40 us into the take that has begun (R32, R41): the lanes whose boundary work is not
complete overrun, a lane whose check slice of that take has not run among them (R275), and the lane messages that could not be sent by
now are dropped (R551). B and the start of P0 are one instant, so
that either command may come first. -/
def execBoundaryPoint (incomplete : LaneMask) (s : State) : Answer :=
  if ¬ s.take.boundDue ∨ (s.take.point ≠ .started ∧ s.take.point ≠ .rushed) then .next s
  else
    let s := s.reachTime (s.take.start.plus rushTicks)
    let s := { s with take := { s.take with boundDue := false } }
    let behind := fun (x : Lane) => match x.check with | some c => c.lags (s.take.num - 1) | none => false
    let ls := LaneId.all.filter fun l => (l.inMask incomplete || behind (s.lane l)) && (s.lane l).evaluates
    let s := s.overrun ls 2 (s.take.num - 1) fun _ => 7
    let s := s.restCores
    let lost := LaneId.all.flatMap fun l => (s.lane l).unsent
    let records := lost.countP fun m => decide (m.1 = 1)
    let s := s.onLanes fun _ l => { l with unsent := [] }
    let s := State.raiseIf { s with mbx := { s.mbx with drops := satAdd s.mbx.drops lost.length } } (decide (lost ≠ [])) .mbx 16
    .next (State.raiseIf { s with reel := { s.reel with bufLost := satAdd s.reel.bufLost records,
                                                        lostNow := s.reel.lostNow + BitVec.ofNat 32 records } }
      (decide (records ≠ 0)) .reel 2)

end Sys2Proof.Machine
end

