-- ==== Sys2Proof/Machine/Boundary.lean ====
section
/-! DEFINITION. D and the boundary work (R36): overruns of P6 (R34), checks (R277), the comparisons of the voter (R225 to R229,
R239), margins and adaptation (R43 to R54), checkpoints (R232), equalization (R237, R238), mirrors (R19), readback digests (R101),
health and the pair messages of the boundary interval (R383, R405 to R407, R417), held and reset lanes (R240), the restart store
(R480), the lanes' reports (R499) and IND_TAKE (R648). -/

namespace Sys2Proof.Machine

open Sys2Proof

/-! ### Step 1: switches and digests -/

/-- The command that the lanes in voting give by majority (R229); `none` where two lanes differ. -/
def State.majorityCmd (s : State) : Option (BitVec 48) :=
  match s.lanesWith Lane.active with
  | [l, m, n] =>
    let x := s.fio.cmd.get l
    let y := s.fio.cmd.get m
    let z := s.fio.cmd.get n
    some ((x &&& y) ||| (x &&& z) ||| (y &&& z))
  | [l, m] => if s.fio.cmd.get l = s.fio.cmd.get m then some (s.fio.cmd.get l) else none
  | _ => none

/-- The field side holds a channel off (R446, R448, R450, R451, R456, R458). -/
def heldOff (f : FioSt) (i : Nat) : Bool :=
  f.silent || ((f.pins[i]?.map (·.off)).getD false) || bit (groupMask f fun _ g => g.sag || g.held) i

/-- A switch of the lane reads otherwise than its command (R229, R230, R446): on every vital channel that was read in this take,
its four elements conduct exactly when the lane votes, commands the channel on and nothing holds it off. -/
def State.switchBad (s : State) (l : LaneId) : Bool :=
  ((List.range 48).zip s.fio.pins).any fun e =>
    decide (e.2.reading.pin.toNat = e.1 + 1) && decide (pinMode s.voice.data (e.1 + 1) = 4#3) &&
      let on := (s.lane l).active && bit (s.fio.cmd.get l) e.1 && !heldOff s.fio e.1
      decide (field e.2.reading.elems (4 * l.num) 4 ≠ if on then 0xF#4 else 0#4)

/-- The lanes that differ in a switch comparison (R229, R239). -/
def State.switchLanes (s : State) : List LaneId :=
  LaneId.all.filter fun l =>
    (s.lane l).evaluates && (decide (s.majorityCmd.isSome ∧ s.majorityCmd ≠ some (s.fio.cmd.get l)) || s.switchBad l)

/-- What a step of the voter finds: lanes to exclude, or a CUT. -/
inductive Verdict where
  | ok | drop (ls : List LaneId) | cut
  deriving DecidableEq

/-- The comparison of R225 over the values of the lanes in voting. -/
def compareDigests {α : Type} [DecidableEq α] (l : List (LaneId × α)) : Verdict :=
  match l with
  | [x, y, z] =>
    if x.2 = y.2 then (if y.2 = z.2 then .ok else .drop [z.1])
    else if x.2 = z.2 then .drop [y.1]
    else if y.2 = z.2 then .drop [x.1]
    else .cut
  | [x, y] => if x.2 = y.2 then .ok else .cut
  | _ => .ok

/-- The switch comparisons (R229, R239): flagged and counted; lanes that differ leave voting with SWITCH, or RECOVER_MISMATCH. -/
def State.compareSwitches (s : State) : State :=
  let ls := s.switchLanes
  let s := { s with vote := { s.vote with swMis := satAdd s.vote.swMis ls.length } }
  let s := s.raiseIf (decide (ls ≠ [])) .lane 8
  ls.foldl (fun (s : State) l => s.dropLane l (if (s.lane l).active then 0x03 else 0x0A)) s

/-- The agreed digest of the take: that of the lanes in voting, once they agree. -/
def State.agreedDigest (s : State) : Quad := s.voice.digest

/-- A RECOVERING lane after the digest comparison (R239): a third match makes it ACTIVE, with votes from the next take on; a difference
excludes it. The rolling wrap
then goes on to the next lane, or is complete (R411). -/
def State.recoverStep (s : State) (agreed : Quad) (l : LaneId) : State :=
  let x := s.lane l
  if x.stat.state ≠ .recovering then s
  else if x.digest ≠ agreed then s.dropLane l 0x0A
  else
    let n := x.stat.matchCnt + 1
    let s := s.onLane l fun x => x.onStat fun t => { t with matchCnt := n }
    if n = 3 then
      let s := s.onLane l fun x => x.onStat fun t => { t with failCnt := 0 }
      let s := ((s.setLaneState l .active).onLane l fun x => x.onStat fun t => { t with joins := true }).raise .lane 1
      if s.pair.cycleOn ∧ x.stat.cause = 0x0C then
        if l = .c then { s with pair := { s.pair with wrapAge := 0, cycleDone := s.pair.winOpen, cycleOn := false, cycleNext := 0 } }
        else { s with pair := { s.pair with cycleFrom := s.take.num, cycleNext := BitVec.ofNat 2 (l.num + 1) } }
      else s
    else s

/-- The digest comparison over the digests that the lanes hold, and its reaction (R225, R239, R243): the mode follows once from all
exclusions of the take (R226), before a lane that rejoins counts (R243). `split` says that two lanes in voting differ in a switch
command. -/
def State.judgeDigests (s : State) (split : Bool) : State :=
  let v := compareDigests ((s.lanesWith Lane.active).map fun l => (l, (s.lane l).digest))
  let s := match v with
    | .drop ls => ls.foldl (fun (s : State) l => s.dropLane l 0x01) s
    | _ => s
  let s := if split then s.enterCut 243 Config.moduleLane
    else if v = .cut then s.enterCut 225 Config.moduleLane
    else s.settleMode 226 Config.moduleLane
  if ¬ (s.sys.mode.runs ∨ s.sys.mode = .integrating) then s
  else
    let agreed := s.agreedDigest
    (LaneId.all.foldl (fun (s : State) l => s.recoverStep agreed l) s).settleMode 226 Config.moduleLane

/-- Step 1 of the boundary work (R36, R225 to R229, R239). Where the voter's two comparator channels disagree, the module latches CUT
(R222; DESIGN CHOICE, log 123). -/
def State.voterStep (s : State) : State :=
  let channels := Config.channelsDiffer s.free
  let s := { s with free := s.free + 1 }
  if channels then s.enterCut 222 Config.moduleLane
  else
  let split := decide ((s.lanesWith Lane.active).length = 2) && s.majorityCmd.isNone
  let s := s.compareSwitches
  let s := s.onLanes fun _ l => if l.evaluates then { l with digest := vitalDigest l.vit } else l
  s.judgeDigests split

/-! ### Margins and adaptation -/

/-- The lane margin for a settle time and a take length (R44). -/
def marginOf (n : BitVec 6) (s : Nat) : BitVec 10 := BitVec.ofNat 10 (1000 * (windowNs n - s) / windowNs n)

/-- Worst-case time of a phase in ns (R28). -/
def worstNs : Phase → Nat
  | .p0 => 300000
  | .p1 => 600000
  | .p2 => 500000
  | .p3 => 1100000
  | .p4 => 900000
  | .p5 => 400000
  | .p6 => 200000

/-- The region and phase with the highest ratio of time to worst case (R45, R63). Of several with the highest ratio, the rules name none;
the first of the list stands: the earliest phase, in it the region that was quiescent first, then the lowest region. DESIGN CHOICE (log 107). -/
def slowest (l : List (Region × Phase × Nat)) : Option (Region × Phase) :=
  (l.foldl (fun (a : Option (Region × Phase × Nat)) e =>
    match a with
    | none => some e
    | some b => if b.2.2 * worstNs e.2.1 < e.2.2 * worstNs b.2.1 then some e else some b) none).map fun e => (e.1, e.2.1)

/-- The margin measurement of a lane (R44, R45). -/
def Lane.measure (n : BitVec 6) (l : Lane) : Lane :=
  let p := slowest l.fab.regionNs
  { l with adp := { l.adp with
      margin := marginOf n l.fab.settleNs, valid := l.active,
      region := (p.map (·.1)).getD 0, phase := BitVec.ofNat 3 ((p.map fun e => e.2.num).getD 0) } }

/-- The supply step of a lane after this take (R46, R47, R53): the count of takes since the last raise, the count of relaxed takes,
and the step. -/
def Lane.supply (atCfg : Bool) (l : Lane) : Lane :=
  let a := l.adp
  let since := if a.sinceUp < 8 then a.sinceUp + 1 else 8
  let relax := if 750 ≤ a.margin.toNat then (if a.relax < 1000 then a.relax + 1 else 1000) else 0
  if a.margin.toNat < 700 ∧ since = 8 ∧ a.step.toNat < 5 then
    { l with adp := { a with step := a.step + 1, sinceUp := 0, relax := 0 } }
  else if relax = 1000 ∧ atCfg ∧ a.step ≠ 0 then { l with adp := { a with step := a.step - 1, sinceUp := since, relax := 0 } }
  else { l with adp := { a with sinceUp := since, relax := relax } }

/-- Steps 1 and 3 of the adaptation in each lane, with SUPPLY_STEP records (R47, R53, R57). -/
def State.adaptLanes (s : State) : State :=
  let atCfg := decide (s.take.nCur = s.voice.data.nCfg)
  LaneId.all.foldl (fun (s : State) l =>
    let x := s.lane l
    if ¬ x.evaluates then s
    else
      let y := x.supply atCfg
      let s := s.setLane l y
      if y.adp.step = x.adp.step then s
      else
        let s := s.raiseIf (decide (x.adp.step.toNat < y.adp.step.toNat)) .adapt 0
        s.record 0 0x20 [BitVec.ofNat 8 l.num, x.adp.step.zeroExtend 8, y.adp.step.zeroExtend 8]) s

/-- The lowest of the ACTIVE lanes' margins, with its lane (R45, R62). Of several lanes with the lowest margin, the rules name none; the
first in the order A, B, C stands in LANE_MIN. DESIGN CHOICE (log 108). -/
def State.lowestMargin (s : State) (f : Lane → BitVec 10) : BitVec 10 × BitVec 2 :=
  (s.lanesWith Lane.active).foldl (fun (a : BitVec 10 × BitVec 2) l =>
    if a.2 = 3 ∨ (f (s.lane l)).toNat < a.1.toNat then (f (s.lane l), BitVec.ofNat 2 l.num) else a) (0, 3)

/-- Steps 2 and 3 of the adaptation in the module (R48, R52, R54). The counts run whether or not a change is pending: what R50 holds
back then is the decision. DEDUCED (log 67). -/
def State.adaptModule (s : State) : State :=
  let t := s.take
  let d := s.voice.data
  let short := decide (t.margin.toNat < 500)
  let good : BitVec 10 :=
    if 700 ≤ t.mCfg.toNat then (if t.good.toNat < 1000 then t.good + 1 else 1000) else 0
  let low : BitVec 4 := if short then (if t.low.toNat < 8 then t.low + 1 else 8) else 0
  let reached := decide (low = 8 ∧ t.low ≠ 8)
  let atMax := reached && decide (d.nMax.toNat ≤ t.nCur.toNat)
  let req := if reached ∧ ¬ atMax then t.nCur + 1 else if good = 1000 ∧ t.nCur ≠ d.nCfg then d.nCfg else t.ownReq
  let s := { s with take := { t with good := good, low := low, ownReq := req, atMax := short && (t.atMax || atMax) } }
  if atMax then (s.raise .adapt 2).record 0 0x22 (toBytes 4 t.num) else s

/-- The take length that the lead decides (R49). -/
def State.nextLength (s : State) : BitVec 6 :=
  let t := s.take
  let d := s.voice.data
  let part : BitVec 6 := if s.pair.linkUp ∧ ¬ s.pair.demoted then t.partReq.getD 0 else 0
  BitVec.ofNat 6 (min d.nMax.toNat (max t.ownReq.toNat (max part.toNat d.nCfg.toNat)))

/-- The lead decides the take length in every boundary interval in which no change is pending (R49, R50), with the flag of R65 where no
request of the second is current: one received since the last decision, on a link that is up. A second sends its request (R383). The
first slate that announces a change opens the next take, so the change takes effect one take after that. -/
def State.decideLength (s : State) : State :=
  let t := s.take
  match s.sys.role with
  | .lead =>
    let n := s.nextLength
    if t.nPend ≠ 0 then s
    else
      let s : State := { s with take := { t with
        partNew := false
        nPend := if n = t.nCur then 0 else n
        pendRound := if n = t.nCur then t.pendRound else t.start.round + BitVec.ofNat 40 (2 * t.nCur.toNat) } }
      s.raiseIf (!(t.partNew && s.pair.linkUp && !s.pair.demoted)) .adapt 5
  | .second => if s.pair.linkUp then s.emit (.tlen t.ownReq) else s
  | .none => s

/-- Step 2 of the boundary work and what follows from it: margins, supply, and the counts of the take length. -/
def State.marginStep (s : State) : State :=
  let n := s.take.nCur
  let s := s.onLanes fun _ l => if l.evaluates then l.measure n else { l with adp := { l.adp with valid := false } }
  let m := s.lowestMargin (·.adp.margin)
  let c := s.lowestMargin fun l => marginOf l.data.nCfg l.fab.settleNs
  { s with take := { s.take with
      margin := m.1, laneMin := m.2, mCfg := c.1,
      marginLow := if m.1.toNat < s.take.marginLow.toNat then m.1 else s.take.marginLow } }

/-! ### Step 3: checkpoint and equalization -/

/-- The lanes that evaluated write their checkpoint into the other slot (R232); the voter records the agreed digest for it (R236). -/
def State.writeCheckpoints (s : State) : State :=
  let agreed := s.agreedDigest
  let slot := !s.voice.ckptLast
  let s := s.onLanes fun _ l =>
    if l.evaluates then
      let k : Checkpoint := { vital := l.vit, station := l.data.station, digest := l.digest }
      if l.ckptLast then { l with ckptA := some k, ckptLast := false } else { l with ckptB := some k, ckptLast := true }
    else l
  let old := s.vote.slotDig
  let dig := fun (l : LaneId) => if (s.lane l).evaluates then some (s.take.num, agreed) else old.get l
  { s with vote := { s.vote with agreed := agreed, agreedTake := s.take.num, ckptSlot := slot, ckptValid := true,
                                 ckptTake := s.take.num, slotDig := { a := dig .a, b := dig .b, c := dig .c } } }

/-- The shadow planes of a splice in hand, reloaded from staging as far as the ACTIVE lanes hold them (R302). -/
def Lane.reloadShadow (l : Lane) (id : LaneId) (img : Option Image) (loaded : Nat) : Lane :=
  let g := l.vit.reg
  match img with
  | some i =>
    if g.stage = .loading ∨ g.stage = .checked ∨ g.stage = .scheduled then
      let l := { l with mem := { l.mem with loaded := 0 } }
      (List.range loaded).foldl (fun l _ => l.shadowPortion id i g.spliceSet) l
    else l
  | none => l

/-- The reloaded shadow planes of a splice whose check has passed have the placement digest that the partial image gives for the lane
(R302). -/
def Lane.shadowGood (l : Lane) (id : LaneId) (img : Option Image) : Bool :=
  let g := l.vit.reg
  if g.stage = .checked ∨ g.stage = .scheduled then
    match img with
    | some i => decide (l.placementDigest g.spliceSet (!g.rtActive) = manPlace i.manifest id)
    | none => false
  else true

/-- Equalization of one lane that is ready (R237, R238, R302): the streams of the ACTIVE lanes agree, the loaded state has the agreed
digest and the shadow planes of a splice are those of the partial image, or EQUAL_FAIL. -/
def State.equalize (s : State) (l : LaneId) : State :=
  let x := s.lane l
  if ¬ (x.stat.state = .excluded ∧ x.stat.ready) then s
  else
    let v := s.voice
    let chain := s.liveChain
    let agree := (s.lanesWith Lane.active).all fun k => decide ((s.lane k).vit = v.vit)
    let x := (x.adopt l chain v.vit).reloadShadow l s.stagedImage v.mem.loaded
    if agree ∧ vitalDigest v.vit = s.vote.agreed ∧ x.shadowGood l s.stagedImage then
      let k : Checkpoint := { vital := v.vit, station := x.data.station, digest := s.vote.agreed }
      let x := { x with
        ckptA := some k, ckptB := none, ckptLast := false, check := v.check, noticed := v.noticed, disabled := v.disabled
        report := [], eff := { payloads := [], pins := 0 } }
      let x := x.onStat fun t => { t with matchCnt := 0, ready := false, running := true, waiting := false }
      let dig := s.vote.slotDig.set l (some (s.vote.agreedTake, s.vote.agreed))
      State.setLaneState { s.setLane l x with vote := { s.vote with slotDig := dig } } l .recovering
    else
      (s.onLane l fun x => x.onStat fun t => { t with cause := 0x09, causeTake := s.take.num, failCnt := satInc t.failCnt }).raise
        .lane 2

/-! ### Step 5: readback digests -/

/-- The comparison of the region readback digests (R101). A lane that has no digest of the visit that has just ended takes no part
(DEDUCED, log 24). -/
def State.compareReadback (s : State) : State :=
  let t := s.take.num.toNat
  if t % 4 ≠ 3 then s
  else
    let r : Region := BitVec.ofNat 4 (t % 64 / 4)
    let have_ := (s.lanesWith fun l => l.votes && decide (l.mem.rdigTake = some s.take.num)).filterMap fun l =>
      ((s.lane l).mem.rdig.find? fun e => decide (e.1 = r)).map fun e => (l, e.2)
    match compareDigests have_ with
    | .ok => s
    | .cut => (s.raise .scrub 12).enterCut 101 Config.moduleLane
    | .drop ls =>
      let s := s.raise .scrub 12
      let s := ls.foldl (fun (s : State) l => s.record 0 0x31 [r.zeroExtend 8, BitVec.ofNat 8 l.num]) s
      s.excludeLanes ls 0x05 101

/-! ### Health and pair -/

/-- The health report (R405). -/
def State.healthPayload (s : State) : Bytes :=
  let p := s.pair
  let lanes : BitVec 16 := LaneId.all.foldl (fun w l => w ||| place 16 (3 * l.num) (laneCode (s.lane l).stat.state)) 0
  let flags : Byte := ofBit 0 p.bad ||| ofBit 1 s.requests ||| ofBit 2 p.linkUp ||| ofBit 3 p.seenA ||| ofBit 4 p.seenB
    ||| ofBit 5 p.sees ||| ofBit 6 p.lost ||| ofBit 7 (p.demoted && decide (s.sys.role = .lead))
  let wrap : Byte := place 8 0 p.wrapLane ||| ofBit 2 p.cycleDone
  sealPayload ([0x02, s.sys.mode.code.zeroExtend 8] ++ toBytes 2 (s.net.node.zeroExtend 16 : BitVec 16) ++ toBytes 4 s.take.num
    ++ toBytes 4 (if p.usable then p.claim else 0) ++ toBytes 2 lanes ++ [p.stDone, p.stFail, flags, wrap] ++ toBytes 2 p.wrapAge
    ++ toBytes 2 (s.take.margin.zeroExtend 16 : BitVec 16))

/-- Which self-tests have run in the last 8 takes (R405). -/
def State.ageTests (s : State) : State :=
  let ages := s.pair.stAges.map (· + 1)
  let done : Byte := ((List.range 8).zip ages).foldl (fun m e => setBit m e.1 (decide (e.2 ≤ 8))) 0
  { s with pair := { s.pair with stAges := ages, stDone := done } }

/-- The own health report of the take (R405, R406): a second BAD in a row enters CUT. -/
def State.ownHealth (s : State) : State :=
  let n : BitVec 2 := if s.pair.bad then (if s.pair.badCnt = 0 then 1 else 2) else 0
  let s := { s with pair := { s.pair with badCnt := n } }
  let s := s.emit (.health s.healthPayload)
  let s := State.ageTests { s with pair := { s.pair with bad := false } }
  if n = 2 then s.enterCut 406 Config.moduleLane else s

/-- The lead judges the second by its reports and digests and demotes it (R407). -/
def State.judgePartner (s : State) : State :=
  let p := s.pair
  let bad := !p.partSeen || bit (p.partReport.getD 16 0) 0
  let n : BitVec 2 := if bad then (if p.partBadCnt = 0 then 1 else 2) else 0
  let s := { s with pair := { p with partBadCnt := n, partSeen := false, healthPart := setField p.healthPart 17 n } }
  if s.sys.role = .lead ∧ s.sys.mode.runs ∧ ¬ p.demoted ∧ ¬ p.lost ∧ (Mode.ofCode p.partMode).runs ∧ (n = 2 ∨ 3 ≤ p.diffRun) then
    let s := { s with pair := { s.pair with demoted := true, diffRun := 0 } }
    let s := s.pairFlag 8
    if s.pair.linkUp then s.emit (.demote p.partner) else s
  else s

/-- EQUAL for an integrating partner (R417), and the ready report of an integrating module (R417, R418). -/
def State.pairEqual (s : State) : State :=
  let p := s.pair
  if s.sys.role = .lead ∧ s.sys.mode.runs ∧ p.linkUp ∧ p.partMode = 5 ∧ ¬ bit p.outWord 2 then
    s.emit (.equal s.voice.vit s.vote.agreed)
  else if s.sys.mode = .integrating ∧ p.linkUp ∧ (p.equalReq ∨ ¬ p.loaded) then s.emit .ready
  else s

/-- The counters of R419 that one L gives. -/
def State.countPair (s : State) : State :=
  let w := s.pair.outWord
  let absent := decide (field w 0 2 = 0#2)
  let p := s.pair
  { s with pair := { p with
      absentCnt := if absent then satInc p.absentCnt else p.absentCnt
      diffCnt := if ¬ absent ∧ p.ownDig.isSome ∧ ¬ bit w 2 then satInc p.diffCnt else p.diffCnt
      withheldCnt := if bit w 5 then p.withheldCnt else satInc p.withheldCnt } }

/-! ### Lanes, store, reason and indications -/

/-- Lanes that LANE_RESET starts, that a rolling wrap takes out, and that must be held (R240, R411, R548). -/
def State.laneOrders (s : State) : State :=
  let s := LaneId.all.foldl (fun (s : State) l =>
    let t := (s.lane l).stat
    let s := if t.resetReq ∧ t.held then s.resetLane l else s
    if t.wrapReq ∧ (s.lane l).active ∧ ¬ s.wrap.running then
      State.shutLane { s with pair := { s.pair with cycleOn := true } } l (some 0x0C)
    else s.onLane l fun x => x.onStat fun t => { t with wrapReq := false }) s
  (LaneId.all.foldl State.holdLane s).settleMode 243 Config.moduleLane

/-- The restart store follows the table, the disabled regions and MODE_SEL (R480). -/
def State.writeStores (s : State) : State :=
  let c := s.sys.commissioning
  s.onLanes fun _ l =>
    if l.evaluates then
      { l with store := { l.store with
          commissioning := c, disabled := l.disabled
          blocks := l.vit.force.filter fun e => decide (e.type ≠ 1 ∧ e.type ≠ 2) } }
    else l

/-- `n` added to the entry of a length. -/
def addLength (l : List (Nat × Nat)) (len n : Nat) : List (Nat × Nat) :=
  if l.any fun e => decide (e.1 = len) then l.map fun e => if e.1 = len then (e.1, e.2 + n) else e else l ++ [(len, n)]

/-- What a completed take adds to the Dailies (R508), in rounds where the record gives times; each lane counts the time at its own supply
step. -/
def State.dailyTake (s : State) : State :=
  let d := s.reel.daily
  let n := s.take.nCur.toNat
  let at_ := fun (l : LaneId) =>
    let i := (s.lane l).adp.step.toNat
    (d.steps.get l).set i ((d.steps.get l).getD i 0 + n)
  let out := fun (l : LaneId) => if (s.lane l).active then d.secOut.get l else d.secOut.get l + n
  let m := s.sys.mode
  { s with reel := { s.reel with daily := { d with
      takes := d.takes + 1
      lowest := if s.take.margin.toNat < d.lowest.toNat then s.take.margin.zeroExtend 16 else d.lowest
      secVital := if m = .vital then d.secVital + n else d.secVital
      secDegr := if m = .degraded then d.secDegr + n else d.secDegr
      secComm := if m = .commissioning then d.secComm + n else d.secComm
      secOut := { a := out .a, b := out .b, c := out .c }
      steps := { a := at_ .a, b := at_ .b, c := at_ .c }
      lengths := addLength d.lengths n n } } }

/-- A participant answers READY, and its staging is in use (R525). -/
def State.answerReady (s : State) : State := { s with stg := { s.stg with phase := .ready, state := .inUse, use := .activation } }

/-- A participant's refusal, with which it does not hold its staging any longer (R525, R526). -/
def State.refuse (s : State) (cause : Byte) : State :=
  let g := s.stg
  { s with stg := { g with
      phase := .preparing, cause := cause, service := .none
      state := if g.use = .activation then .staged else g.state, use := if g.use = .activation then .none else g.use } }

/-- A participant refuses, and its service load ends. -/
def State.answerRefuse (s : State) (cause : Byte) : State := s.dropService.refuse cause

/-- The end of a service load's check at D (R525). A check that has failed, has been ended by CHECK_ABORTED or SHADOW_INVALID (R278), or
a shadow plane lost before READY, is answered with REFUSED_CHECK. -/
def State.serviceResult (s : State) : State :=
  let refused := s.dropShadow.refuse 5
  if s.stg.service = .checking then
    match s.voice.check with
    | some c =>
      if c.scope ≠ 2 then refused
      else
        (match c.result with
         | some (code, _) => if code = 0 then State.answerReady { s with stg := { s.stg with service := .passed } } else refused
         | none => s)
    | none => refused
  else if s.stg.service = .failed ∧ s.stg.phase = .preparing then refused
  else s

/-! ### DEADLINE -/

/-- In a firmware roll, the second runs the take with the lead: VITAL, and equal (R529). -/
def State.secondBack (s : State) : Bool :=
  decide (s.stg.phase = .rolling) && decide (s.sys.role = .lead) && decide (s.pair.partMode = 6) && bit s.pair.outWord 4

/-- A second that holds no order list for the next take by D (R645). -/
def State.orderMiss (s : State) : State :=
  if s.sys.role = .second ∧ s.sys.mode.runs ∧ s.port.listTake ≠ some (s.take.num + 1) then
    s.record 6 0x78 (toBytes 2 (0 : BitVec 16) ++ List.replicate 6 0 ++ [5])
  else s

/-- The steps of the boundary work of a take in a module that is still running takes after step 1 (R36). -/
def State.boundarySteps (s : State) : State :=
  let old := s.mirror.vec
  let s := s.marginStep.writeCheckpoints
  let s := LaneId.all.foldl State.equalize s
  let s := s.latchReason.countPair.updateMirrors
  let s := s.compareReadback
  if ¬ s.takesRun then s.mergeReports
  else
    let s := s.adaptLanes.adaptModule.decideLength
    let s := s.ownHealth
    if ¬ s.takesRun then s.mergeReports
    else
      let s := s.judgePartner.pairEqual.laneOrders
      let s := (s.writeStores.mergeReports.laterTake old).dailyTake
      { s with take := { s.take with ran := s.takesRun, point := if s.takesRun then .deadline else .idle, boundDue := s.takesRun }
               stg := { s.stg with vitalTakes := if s.secondBack then s.stg.vitalTakes + 1 else 0 } }

/-- The boundary work, with the registers that it updates (R36, R59, R254). -/
def State.boundaryWork (s : State) : State := s.boundarySteps.showMeasures

/-- What L has fixed for the next take's telegrams (R358). -/
def State.txFlags (s : State) : TxFlags :=
  { comm := decide (s.sys.mode = .commissioning), paired := bit s.pair.outWord 4, sending := bit s.pair.outWord 5 }

/-- The lane has finished P6 (R34). -/
def Lane.settled6 (l : Lane) : Bool := decide (l.fab.phase = .p6) && l.fab.quiet && !l.fab.stuck

/-- DEADLINE: D and the boundary work (R32, R36). -/
def execDeadline (s : State) : Answer :=
  if s.take.point ≠ .latched then .next s
  else
    let t := s.take
    let s := s.reachTime (t.start.plus (t.nCur.toNat * roundTicks - 200000))
    let late := s.overrunning Lane.settled6 (fun l => l.fab.durs.getD 6 0) 1000000
    let s := State.overrun { s with free := s.free + 3 } late 1 s.take.num fun _ => 6
    if ¬ s.takesRun then .next s.mergeReports
    else
      let s := (s.orderMiss.serviceResult.onLanes fun _ l => if l.evaluates then l.latchCheck s.txFlags else l).freeStaging
      let s := s.resumeCores.voterStep
      if ¬ s.takesRun then .next s.mergeReports else .next s.boundaryWork

end Sys2Proof.Machine
end

