-- ==== Sys2Proof/Machine/Pair.lean ====
section
/-! DEFINITION. Lead, second and witness (10): the pair link and its messages (R381 to R383, R387, R405, R408, R417), claims and roles
(R389 to R392, R395, R398, R399), losses (R397, R402, R403), self-tests (R404), and the meanings of their commands. -/

namespace Sys2Proof.Machine

open Sys2Proof

/-- The optical bypass of every ring port pair joins its in port to its out port: what passes there does not enter the module
(R413). -/
def State.bypassed (s : State) : Bool :=
  decide (s.sys.mode = .off) || decide (s.sys.mode = .standIn) || decide (s.sys.mode = .boot)

/-- The module is supplied and past BOOT, and runs no module wrap: its ports and links are live (R8, R566). -/
def State.awake (s : State) : Bool := !s.bypassed && !s.moduleWraps

/-! ### Leaving a mode that runs takes -/

/-- The pair state of a module that begins, or has ended, to integrate. -/
def PairSt.fresh (p : PairSt) : PairSt :=
  { p with loaded := false, equalRun := 0, equalReq := false, startReq := false, refused := false }

/-- INTEGRATING to READY (R469). -/
def State.leaveIntegrating (s : State) : State :=
  if s.sys.mode = .integrating then
    State.setMode { s.stopTakes with pair := s.pair.fresh } .ready
  else s

/-! ### Roles and claims -/

/-- The module takes a role; the guardian opens the slots of the new role from the next slot (R332, R389). -/
def State.takeRole (s : State) (r : Role) : State :=
  if s.sys.role = r then s
  else State.loadGuard { s with
    sys := { s.sys with role := r }
    pair := { s.pair with demoted := false }
    take := { s.take with partReq := none, partNew := false }
    net := { s.net with guardFrom := some s.now.slot } }

/-- A mode in which the module takes role and claim from what it sees (R389, R472). -/
def State.claims (s : State) : Bool := s.sys.mode.runs || decide (s.sys.mode = .integrating)

/-- A later claim is found (R395): role SECOND, and withholding. One that came only from a response or a slate leaves the module
without a usable claim. -/
def State.claimLater (s : State) (broadcast : Bool) : State :=
  if s.claims ∧ s.pair.usable then
    (State.takeRole { s with pair := { s.pair with sending := false, usable := broadcast } } .second).pairFlag 7
  else s

/-- A claim seen in a response or a slate (R365, R395). -/
def State.seeClaim (s : State) (c : Word) : State :=
  if s.pair.usable ∧ later c s.pair.claim then s.claimLater false else s

/-- The result for the own node in a broadcast (R390). -/
def ownResult (own : NodeId) (p : Bytes) : Option Byte :=
  if own = getBE 12 p 15 2 then some (p.getD 17 0) else if own = getBE 12 p 18 2 then some (p.getD 20 0) else none

/-- CLAIM record (R498). -/
def State.claimRecord (s : State) (p : Bytes) (result : Byte) : State := s.record 5 0x51 (slice p 4 6 ++ [result])

/-- The own node is granted (R399, R472): a module that had lost its partner stops withholding; one that would start the
installation starts it. -/
def State.granted (s : State) : State :=
  let p := s.pair
  let resume := p.lost && p.unseen && s.sys.mode.runs && !p.withhold
  let start := decide (s.sys.mode = .integrating) && !p.loaded && !p.partnerRuns
  State.pairFlag { s with pair := { p with
    granted := true, grantCnt := satInc p.grantCnt, sending := p.sending || (resume && s.take.ran)
    startReq := p.startReq || start } } 5

/-- A request is refused (R390, R424, R472). -/
def State.refusedBy (s : State) (r : Byte) : State :=
  State.pairFlag { s with pair := { s.pair with refused := s.pair.refused || decide (r = 1 ∨ r = 2) } } 6

/-- An accepted broadcast decides the own request (R390); the eight frames of a round count once. -/
def State.takeResult (s : State) (p : Bytes) (newer : Bool) : State :=
  match ownResult s.net.node p with
  | some r =>
    let s := if newer ∨ r ≠ s.pair.grant.zeroExtend 8 then s.claimRecord p r else s
    let s := { s with pair := { s.pair with grant := field r 0 4 } }
    if r = 0 then s.granted else s.refusedBy r
  | none => if newer then s.claimRecord p 0 else s

/-- A witness broadcast is accepted (R389, R390, R395). -/
def State.acceptBroadcast (s : State) (p : Bytes) : State :=
  if ¬ (checkedPayload p ∧ p.getD 0 0 = 1) then s
  else
    let claim : Word := getBE 32 p 4 4
    let holder : NodeId := getBE 12 p 8 2
    let round : BitVec 40 := getBE 40 p 10 5
    let q := s.pair
    let first := decide (q.witLast ≠ some round)
    let s := { s with pair := { q with
      witHolder := holder, witNode := getBE 12 p 2 2, witClaim := claim, witLast := some round, witRounds := 0
      witnessSeen := true } }
    if ¬ s.claims then s
    else
      let newer := decide (q.claim ≠ claim) || !q.usable
      let s := if q.usable ∧ later claim q.claim ∧ holder ≠ s.net.node then s.claimLater true else s
      let s := { s with pair := { s.pair with
        claim := claim, usable := true, resigned := s.pair.resigned && decide (q.claim = claim) } }
      let s := s.takeRole (if holder = s.net.node then .lead else .second)
      let s := { s with stg := { s.stg with
        restartDue := s.stg.restartDue || (decide (s.stg.phase = .rolling) && q.resigned && decide (s.sys.role = .second)) } }
      if first then s.takeResult p newer else s

/-- WITNESS_BROADCAST (R389, R390, R395, R399, R472). -/
def execWitnessBroadcast (payload : Bytes) (s : State) : Answer := .next (s.acceptBroadcast payload)

/-- WITNESS_LOST (R403): no broadcast accepted for 8 rounds. -/
def execWitnessLost (s : State) : Answer :=
  if s.claims ∧ 8 ≤ s.pair.witRounds then
    .next (State.pairFlag { s with pair := { s.pair with witnessSeen := false } } 9)
  else .next s

/-! ### The witness -/

/-- COMP_NODES of the WITNESS section (R393). -/
def compNodes (w : Bytes) : List NodeId := (((List.range 4).map fun i => getBE 12 w (2 * i) 2)).filter fun n => decide (n ≠ 0)

/-- The node of a health report, and whether it requests (R405). -/
def reportNode (p : Bytes) : NodeId := getBE 12 p 2 2
/-- REQUEST of a health report. -/
def reportRequests (p : Bytes) : Bool := bit (p.getD 16 0) 1

/-- The result of a requester before the store is written (R391): `reqs` are the listed requesters, in ascending order. -/
def witResult (listed reqs : List NodeId) (holder : NodeId) (alive : Bool) (n : NodeId) : Byte :=
  if ¬ listed.contains n then 3
  else if reqs.contains holder then (if n = holder then 0 else 1)
  else if alive then 2
  else if some n = reqs.head? then 0 else 1

/-- The order of node identifiers. -/
def nodeInsert (n : NodeId) : List NodeId → List NodeId
  | [] => [n]
  | m :: l => if n.toNat < m.toNat then n :: m :: l else if n = m then m :: l else m :: nodeInsert n l

/-- The witness decides on the reports of a round (R391, R392). -/
def State.witnessDecide (s : State) (storeOk : Bool) : State :=
  let w := s.wit
  let listed := compNodes s.voice.data.witness
  let asked := (w.reports.filter fun e => reportRequests e.2).foldl (fun l e => nodeInsert (reportNode e.2) l) []
  let reqs := asked.filter fun n => listed.contains n
  let alive := w.reports.any fun e => decide (reportNode e.2 = w.holder)
  let res := witResult listed reqs w.holder alive
  let winner := asked.find? fun n => decide (res n = 0)
  let made := winner.isSome && storeOk
  let code := fun (n : NodeId) => if some n = winner ∧ ¬ storeOk then 4 else res n
  let r1 := asked.getD 0 0
  let r2 := asked.getD 1 0
  let claim := if made then w.claim + 1 else w.claim
  let holder := if made then winner.getD 0 else w.holder
  let s := { s with
    wit := { claim := claim, holder := holder, grant := made, req1 := r1, res1 := if r1 = 0 then 0 else code r1, req2 := r2
             res2 := if r2 = 0 then 0 else code r2, reports := [] } }
  if made then s.onLanes fun _ l => if l.active then { l with witStore := some (claim, holder) } else l else s

/-- WITNESS_DECIDE (R391, R392). -/
def execWitnessDecide (storeOk : Bool) (s : State) : Answer :=
  if s.sys.mode = .witness then .next (s.witnessDecide storeOk) else .next s

/-! ### The pair link -/

/-- A message on the pair link is used (R382, R383). -/
def State.linkUses (s : State) (valid : Bool) : Bool := valid && s.pair.linkUp && s.awake

/-- A pair-link message is accepted (R591). -/
def State.linkCount (s : State) : State := s.count 216 16 0x67

/-- The pair link goes down (R382). -/
def State.linkDown (s : State) : State :=
  if s.pair.linkUp then
    State.pairFlag { s with pair := { s.pair with linkUp := false, linkDownCnt := satInc s.pair.linkDownCnt } } 0
  else s

/-- The partner's mode, as a HEARTBEAT or a report gives it; the lead clears DEMOTED when the integration of the second completes
(R408). -/
def PairSt.setMode (p : PairSt) (m : BitVec 4) : PairSt :=
  { p with partMode := m, demoted := p.demoted && !(decide (p.partMode = 5) && (Mode.ofCode m).runs) }

/-- HEARTBEAT (R381, R382). The module's own HEARTBEATs go out at the same pace: one for each that it receives. DESIGN CHOICE (log 114). -/
def execHeartbeat (node : NodeId) (mode : BitVec 4) (rxUp valid : Bool) (s : State) : Answer :=
  if ¬ (valid ∧ s.awake) then .next s
  else
    let p := if s.sys.role = .lead then s.pair.setMode mode else { s.pair with partMode := mode }
    let s := State.linkCount { s with pair := { p with partner := node, rxUp := true, partRxUp := rxUp } }
    let s := s.emit (.heartbeat s.net.node s.sys.mode.code true)
    .next (if rxUp then s else s.linkDown)

/-- PAIR_LINK_DOWN (R382): no valid HEARTBEAT for 100 us, or the partner's receive side is down. -/
def execPairLinkDown (s : State) : Answer :=
  .next (State.linkDown { s with pair := { s.pair with rxUp := s.pair.rxUp && !s.pair.partRxUp } })

/-- PAIR_LINK_UP (R382): 1 round of unbroken valid HEARTBEATs in both directions. -/
def execPairLinkUp (s : State) : Answer :=
  if s.awake ∧ s.pair.rxUp ∧ s.pair.partRxUp then .next { s with pair := { s.pair with linkUp := true } } else .next s

/-- The partner of a message on the rings: while the link is down, its sender. -/
def State.ringPartner (s : State) (node : NodeId) : State :=
  if s.pair.linkUp ∨ node = s.net.node then s else { s with pair := { s.pair with partner := node } }

/-- A DIGEST of the partner (R387, R388). -/
def State.partnerDigest (s : State) (src : PairSrc) (node : NodeId) (take : Word) (digest : Quad) : State :=
  let s := if src = .link then s else s.ringPartner node
  if ¬ s.takesRun ∨ s.pair.partner ≠ node then s
  else
    State.tryAgree { s with pair := { s.pair with partDig := s.pair.partDig ++ [{ src := src, take := take, digest := digest }] } }

/-- DIGEST (R382 to R387). -/
def execDigest (src : PairSrc) (node : NodeId) (take claim : Word) (digest : Quad) (valid : Bool) (s : State) : Answer :=
  let _ := claim
  if src = .link then
    if s.linkUses valid then .next (s.linkCount.partnerDigest src node take digest) else .next s
  else if valid ∧ s.awake then .next (s.partnerDigest src node take digest) else .next s

/-- AGREE (R382, R387, R388). -/
def execAgree (take : Word) (digest : Quad) (valid : Bool) (s : State) : Answer :=
  if s.linkUses valid ∧ s.sys.role ≠ .lead then
    .next { s.linkCount with pair := { s.pair with agreeRcvd := some (take, digest) } }
  else .next s

/-- A demoted second withholds and returns to INTEGRATING (R408). -/
def State.demoteSelf (s : State) : State :=
  if s.sys.role = .second ∧ s.sys.mode.runs then
    State.setMode { s.stopTakes with pair := { s.stopTakes.pair.fresh with demoted := true, equalReq := true } } .integrating
  else s

/-- A health report of the partner (R405 to R408, R423). -/
def State.partnerHealth (s : State) (p : Bytes) : State :=
  let q := s.pair
  let w : Word := place 32 0 (p.getD 14 0) ||| place 32 8 (p.getD 15 0) ||| ofBit 16 (bit (p.getD 16 0) 0)
    ||| place 32 17 q.partBadCnt
  let q := if s.sys.role = .lead then q.setMode (field (p.getD 1 0) 0 4) else { q with partMode := field (p.getD 1 0) 0 4 }
  let s := { s with pair := { q with partReport := p, partSeen := true, healthPart := w } }
  if bit (p.getD 16 0) 7 then s.demoteSelf else s

/-- HEALTH (R382, R405). -/
def execHealth (src : PairSrc) (payload : Bytes) (s : State) : Answer :=
  let ok := checkedPayload payload && decide (payload.getD 0 0 = 2)
  if src = .link then
    if s.linkUses ok then .next (s.linkCount.partnerHealth payload) else .next s
  else if ok ∧ s.awake ∧ reportNode payload ≠ s.net.node then
    .next ((s.ringPartner (reportNode payload)).partnerHealth payload)
  else .next s

/-- TLEN (R49, R407): the lead ignores that of a demoted second. -/
def execTlen (len : BitVec 6) (valid : Bool) (s : State) : Answer :=
  if s.linkUses valid ∧ s.sys.role = .lead ∧ ¬ s.pair.demoted then
    .next { s.linkCount with take := { s.take with partReq := some len, partNew := true } }
  else .next s

/-- DEMOTE (R407, R408). -/
def execDemote (node : NodeId) (valid : Bool) (s : State) : Answer :=
  if s.linkUses valid ∧ node = s.net.node then .next s.linkCount.demoteSelf else .next s

/-- RESIGN (R398): the second requests. -/
def execResign (node : NodeId) (valid : Bool) (s : State) : Answer :=
  if s.linkUses valid ∧ s.sys.role = .second ∧ node ≠ s.net.node then
    .next { s.linkCount with pair := { s.pair with resigned := true } }
  else .next s

/-- LEAD_RESIGN_TIMEOUT (R402): a lead that runs takes has accepted no frame on either ring for 3 whole rounds while the pair link is
up. -/
def execLeadResignTimeout (s : State) : Answer :=
  if s.sys.role = .lead ∧ s.sys.mode.runs ∧ s.pair.linkUp ∧ 4 ≤ s.net.noFrame ∧ ¬ s.pair.resigned then
    .next ((State.emit { s with pair := { s.pair with resigned := true, sending := false } } (.resign s.net.node)).pairFlag 10)
  else .next s

/-- PARTNER_LOST (R397, R398, R403): at slot 2776 the link is down and the partner unseen in the round. A module that has seen no
partner since its start keeps the grant made after its start (R399). -/
def execPartnerLost (s : State) : Answer :=
  let s := s.reachSlot 2776
  if ¬ s.pair.unseen ∨ ¬ s.claims ∨ s.pair.lost then .next s
  else
    .next (State.pairFlag { s with pair := { s.pair with
      lost := true, granted := s.pair.granted && decide (s.pair.partner = 0), lostCnt := satInc s.pair.lostCnt } } 4)

/-! ### Equalization -/

/-- Records 1 to 9 of the lead go into the lanes, with role SECOND in record 1; blockings, drop holds and the regions that the lead
holds disabled go into the restart stores (R417, R480). -/
def State.loadEqual (s : State) (v : Vital) (d : Quad) : State :=
  let chain := s.liveChain
  let staged := s.stagedImage
  let s := s.onLanes fun id l =>
    if l.evaluates then
      let l := l.adopt id chain { v with hdr := { v.hdr with role := .second } }
      let l := l.reloadShadow id staged (loadTakes v.reg.spliceSet)
      { l with check := none, noticed := false, report := []
               disabled := l.usedRegions &&& ~~~v.reg.regEn &&& ~~~v.reg.rstDis }
    else l
  State.loadGuard { s with
    sys := { s.sys with role := .second }
    take := { s.take with num := v.hdr.takeNum, nCur := v.hdr.nCur, nPend := v.hdr.nPend, pendRound := v.hdr.pendRound,
                          start := v.hdr.start, ran := false, point := .deadline,
                          ownReq := if s.take.ownReq = 0 then s.voice.data.nCfg else s.take.ownReq }
    pair := { s.pair with loaded := true, equalReq := false, equalRun := 0 }
    stg := { s.stg with marker := if v.reg.stage = .none then none else s.stg.marker }
    vote := { s.vote with agreed := d, agreedTake := v.hdr.takeNum } }

/-- EQUAL (R417): an integrating module that has asked for it loads the content, if each lane's digest of it agrees. -/
def execEqual (vital : Vital) (digest : Quad) (valid : Bool) (s : State) : Answer :=
  if s.linkUses valid ∧ s.sys.mode = .integrating ∧ (s.pair.equalReq ∨ ¬ s.pair.loaded) then
    if vitalDigest vital = digest then .next (s.linkCount.loadEqual vital digest)
    else .next { s.linkCount with pair := { s.pair with equalReq := true } }
  else .next s

/-! ### Self-tests -/

/-- SELF_TEST (R404, R405): test i runs in the takes whose number mod 8 is i, and again after a failure; test 4 is skipped while
DEGRADED. -/
def execSelfTest (test : BitVec 3) (pass : Bool) (s : State) : Answer :=
  let i := test.toNat
  let p := s.pair
  let due := decide (s.take.num.toNat % 8 = i) || bit p.stFail i
  if ¬ s.sys.mode.runs ∨ ¬ due ∨ (i = 4 ∧ s.sys.mode = .degraded) then .next s
  else
    let s := { s with pair := { p with
      stAges := p.stAges.set i 0, stDone := setBit p.stDone i true, stFail := setBit p.stFail i (!pass)
      bad := p.bad || !pass } }
    .next (s.pairFlagIf (!pass) 11)

end Sys2Proof.Machine
end

