-- ==== Sys2Proof/Machine/FieldIO.lean ====
section
/-! DEFINITION. Field I/O (11): filters and snapshots (R432, R433, R435), counters and periods (R436 to R440), channels and their
supervision (R446 to R454), field supply (R455, R456), refresh of the lanes (R457, R458), and the meanings of their commands. -/

namespace Sys2Proof.Machine

open Sys2Proof

/-! ### Pins and channels -/

/-- The entry of a pin (R268). -/
def State.pinEntry (s : State) (p : Nat) : Word := if p = 0 then 0 else s.voice.data.pins.getD (p - 1) 0

/-- One pin changed. -/
def State.onPin (s : State) (p : Nat) (f : PinSt → PinSt) : State :=
  if p = 0 then s
  else
    match s.fio.pins[p - 1]? with
    | some x => { s with fio := { s.fio with pins := s.fio.pins.set (p - 1) (f x) } }
    | none => s

/-- The state of a pin. -/
def State.pin (s : State) (p : Nat) : PinSt := if p = 0 then PinSt.reset else s.fio.pins.getD (p - 1) PinSt.reset

/-- One group changed. -/
def State.onGroup (s : State) (g : Nat) (f : GroupSt → GroupSt) : State :=
  if g = 0 then s
  else
    match s.fio.groups[g - 1]? with
    | some x => { s with fio := { s.fio with groups := s.fio.groups.set (g - 1) (f x) } }
    | none => s

/-- The odd pin that names the channel of a pin (R441). -/
def oddPin (p : Nat) : Nat := p - (p + 1) % 2

/-- The pin heads a double-cut channel (R441). -/
def State.isChannel (s : State) (p : Nat) : Bool := decide (pinMode s.voice.data p = 4#3) && decide (1 ≤ p)

/-- The channel of an odd pin is energized (R442). -/
def State.isOn (s : State) (p : Nat) : Bool := decide (1 ≤ p) && bit (energized s) (p - 1)

/-- A pin takes a fault code, or loses it: FIELD record (R453, R498). -/
def State.faultRecord (s : State) (p : Nat) (code : BitVec 4) : State :=
  s.record 4 0x60 [BitVec.ofNat 8 p, code.zeroExtend 8]

/-- A channel takes a fault code on both of its pins and is held off (R449). -/
def State.faultChannel (s : State) (p : Nat) (code : BitVec 4) : State :=
  let old := s
  let f := fun (x : PinSt) => { x with fault := code, off := true }
  (((s.onPin p f).onPin (p + 1) f).switched old).faultRecord p code

/-- The channels of a group, by odd pin. -/
def State.groupChannels (s : State) (g : Nat) : List Nat :=
  if g = 0 then [] else ((List.range 4).map fun i => 8 * (g - 1) + 2 * i + 1).filter s.isChannel

/-! ### Filters (R432) -/

/-- FILT_N of a pin. -/
def State.filtN (s : State) (p : Nat) : Nat := (field (s.pinEntry p) 3 8).toNat

/-- One tick of a channel's filter: accumulator and output. -/
def filterTick (n : Nat) (raw : Bool) (acc : Byte) (out : Bool) : Byte × Bool :=
  let a := if raw then min (acc.toNat + 1) n else acc.toNat - 1
  (BitVec.ofNat 8 a, if a = n then true else if a = 0 then false else out)

/-- A counted edge (R436, R437, R439). -/
def State.countEdge (s : State) (p : Nat) : State :=
  let x := s.pin p
  let wraps := decide (x.count = BitVec.allOnes 32)
  let s := s.onPin p fun x => { x with count := if x.pend then x.preset else x.count + 1, pend := false }
  if wraps then { s with fio := { s.fio with ovf := setBit s.fio.ovf (p - 1) true } } else s

/-- A filtered output changes (R432, R436, R591). -/
def State.filtered (s : State) (p : Nat) (y level : Bool) : State :=
  let s := s.onPin p fun x => if y then { x with outY := level } else { x with outX := level }
  let s := s.count 232 8 0x81
  if ¬ y ∧ level ∧ p ≤ 8 ∧ bit (s.pinEntry p) 19 then s.countEdge p else s

/-- FILTER_TICK (R432): the comparators of channels X and Y of an input pin read `x` and `y`. -/
def execFilterTick (pin : Pin) (x y : Bool) (s : State) : Answer :=
  let p := pin.toNat
  if ¬ pinInput s.voice.data p ∨ p = 0 then .next s
  else
    let n := s.filtN p
    let old := s.pin p
    let a := filterTick n x old.accX old.outX
    let b := filterTick n y old.accY old.outY
    let s := s.onPin p fun t => { t with accX := a.1, accY := b.1 }
    let s := if a.2 ≠ old.outX then s.filtered p false a.2 else s
    .next (if b.2 ≠ old.outY then s.filtered p true b.2 else s)

/-- FILTERED_INPUT_CHANGE (R432): a filter reaches its limit. -/
def execFilteredInputChange (pin : Pin) (y level : Bool) (s : State) : Answer :=
  let p := pin.toNat
  let old := s.pin p
  let acc : Byte := if level then BitVec.ofNat 8 (s.filtN p) else 0
  if ¬ pinInput s.voice.data p ∨ p = 0 ∨ (if y then old.outY else old.outX) = level then .next s
  else
    let s := s.onPin p fun x => if y then { x with accY := acc } else { x with accX := acc }
    .next (s.filtered p y level)

/-! ### Snapshot (R433, R435) -/

/-- The run of differing or agreeing snapshots of an input pin, and the code that it gives or clears (R435). -/
def divergeStep (x : PinSt) : PinSt :=
  if x.outX ≠ x.outY then
    let n := x.differ + 1
    { x with differ := n, agree := 0, fault := if 8 ≤ n ∧ x.fault = 0 then 1 else x.fault }
  else
    let n := x.agree + 1
    { x with agree := n, differ := 0, fault := if 64 ≤ n ∧ x.fault = 1 then 0 else x.fault }

/-- FIELD_SNAPSHOT (R433, R435, R463): slot 8 of the first round of a take. The lanes in `good` receive a copy with a valid check. -/
def execFieldSnapshot (good : LaneMask) (s : State) : Answer :=
  if s.take.point ≠ .started then .next s
  else
    let s := s.reachTime (s.take.start.plus (8 * 250))
    let pins := (List.range 48).zip s.fio.pins
    let f := { s.fio with
      pins := pins.map fun (e : Nat × PinSt) =>
        let x : PinSt := { e.2 with snapX := e.2.outX, snapY := e.2.outY, snapFault := e.2.fault }
        if pinInput s.voice.data (e.1 + 1) then divergeStep x else x
      groups := s.fio.groups.map fun (g : GroupSt) => { g with snapSag := g.sag }
      snapOk := true
      fsAlive := true }
    let missed := LaneId.all.any fun l => (s.lane l).evaluates && !l.inMask good
    let differs := pins.any fun e => pinInput s.voice.data (e.1 + 1) && (e.2.outX != e.2.outY)
    let old := s.fio.pins
    let s := State.count { s with fio := { f with snapBad := missed } } 232 8 0x80
    let s := s.onLanes fun id l => { l with snap := id.inMask good }
    let s := ((List.range 48).zip (old.zip s.fio.pins)).foldl (fun (s : State) e =>
      if e.2.1.fault = e.2.2.fault then s else s.faultRecord (e.1 + 1) e.2.2.fault) s
    .next ((s.raiseIf differs .fio 1).raiseIf missed .fio 8)

/-! ### Counters and periods -/

/-- PERIOD_MEASURE (R440): a rising edge of channel X's raw input at `time`, in 10 ns units. -/
def execPeriodMeasure (pin : Pin) (time : Nat) (s : State) : Answer :=
  let p := pin.toNat
  if 1 ≤ p ∧ p ≤ 8 ∧ bit (s.pinEntry p) 20 then
    .next (s.onPin p fun x =>
      { x with lastEdge := some time
               period := match x.lastEdge with | some t => satNat 32 (time - t) | none => x.period })
  else .next s

/-- PERIOD_TIMEOUT (R440): no rising edge for 10 s. -/
def execPeriodTimeout (pin : Pin) (s : State) : Answer :=
  .next (s.onPin pin.toNat fun x => { x with period := 0, lastEdge := none })

/-- A write to CNT_SNAP captures counters and periods (R438). -/
def State.cntSnap (s : State) : State :=
  { s with fio := { s.fio with pins := s.fio.pins.map fun (x : PinSt) => { x with cntCap := x.count, perCap := x.period } } }

/-- A write to CNT_PRESET_n (R439). -/
def State.cntPreset (n : Nat) (value : Word) (s : State) : State :=
  if 1 ≤ n ∧ n ≤ 8 then s.onPin n fun x => { x with preset := value, pend := true } else s

/-- CNT_SNAP (R438). A register row that names no master is an access of the coordinator (log 35). -/
def execCntSnap (s : State) : Answer := .next (s.access 0 0x40070080 true State.cntSnap)

/-- CNT_PRESET_n (R439). -/
def execCntPreset (n : BitVec 4) (value : Word) (s : State) : Answer :=
  .next (s.access 0 (0x4007009C + 4 * n.zeroExtend 32) true (State.cntPreset n.toNat value))

/-! ### Readback (R446 to R448, R452, R454) -/

/-- The supply of a pin's group in mV. -/
def State.pinVolt (s : State) (p : Nat) : Nat := ((s.fio.groups[(p - 1) / 8]?.map fun (g : GroupSt) => g.volt).getD 0).toNat

/-- A channel reads off (R447). -/
def readsOff (volt : Nat) (r : Reading) : Bool :=
  decide (r.vOdd.toNat < 2000) && decide (volt ≤ r.vEven.toNat + 3000) && decide (r.vEven.toNat ≤ volt + 3000)
    && decide (r.iHigh.toNat < 2) && decide (r.iRet.toNat < 2)

/-- A channel reads on (R447); the 2 % are of the larger current (DEDUCED, log 30). -/
def readsOn (volt : Nat) (r : Reading) : Bool :=
  let a := r.iHigh.toNat
  let b := r.iRet.toNat
  decide (volt ≤ r.vOdd.toNat + 1000) && decide (r.vOdd.toNat ≤ volt + 1000) && decide (r.vEven.toNat ≤ 1000)
    && decide ((max a b - min a b) * 100 ≤ 1000 + 2 * max a b)

/-- OPEN_LOAD of one channel (R448, R454). -/
def State.openLoad (s : State) (p : Nat) (r : Reading) : State :=
  let x := s.pin p
  if ¬ readsOn (s.pinVolt p) r then s
  else
    let short := decide (r.iHigh.toNat < 5 ∨ r.iRet.toNat < 5)
    let put := fun (s : State) (c : BitVec 4) =>
      ((s.onPin p fun x => { x with fault := c }).onPin (p + 1) fun x => { x with fault := c }).faultRecord p c
    if short ∧ x.fault = 0 then (put s 9).raise .fio 6
    else if ¬ short ∧ x.fault = 9 then put s 0
    else s

/-- NV_MISMATCH of a single-ended output (R452), judged by the levels of R447 (DEDUCED, log 30). -/
def State.nvMismatch (s : State) (p : Nat) (r : Reading) : Bool :=
  if s.isOn p then decide (r.vOdd.toNat + 1000 < s.pinVolt p) else decide (2000 ≤ r.vOdd.toNat)

/-- One reading of a channel or of a single-ended output. -/
def State.readback (s : State) (r : Reading) : State :=
  let p := r.pin.toNat
  if s.isChannel p then (s.onPin p fun x => { x with reading := r }).openLoad p r
  else if pinMode s.voice.data p = 3#3 ∧ 1 ≤ p then
    (s.onPin p fun x => { x with reading := r }).raiseIf (s.nvMismatch p r) .fio 9
  else s

/-- FIELD_READBACK (R446, R447, R448, R452, R454): slot 200 of the first round of a take. -/
def execFieldReadback (readings : List Reading) (supplies : List Supply) (s : State) : Answer :=
  if s.take.point = .idle ∨ s.take.point = .deadline then .next s
  else
    let s := s.reachTime (s.take.start.plus (200 * 250))
    let s := supplies.foldl (fun (s : State) x => s.onGroup x.group.toNat fun g => { g with volt := x.volt, curr := x.curr }) s
    .next (readings.foldl State.readback s)

/-! ### Supervision (R448, R450, R451) -/

/-- A side current opens an energized channel. -/
def State.overCurrent (s : State) (pin : Pin) (code : BitVec 4) : State :=
  let p := oddPin pin.toNat
  if s.isChannel p ∧ s.isOn p then (s.faultChannel p code).raise .fio 4 else s

/-- OVERCURRENT (R448). -/
def execOvercurrent (pin : Pin) (s : State) : Answer := .next (s.overCurrent pin 5)

/-- SHORT_LOAD (R448). -/
def execShortLoad (pin : Pin) (s : State) : Answer := .next (s.overCurrent pin 6)

/-- GROUP_OVERLOAD (R448): every channel of a group with an energized channel opens. -/
def execGroupOverload (group : BitVec 3) (s : State) : Answer :=
  let l := s.groupChannels group.toNat
  if l.any s.isOn then
    .next ((l.foldl (fun (s : State) p => if faultRestricts (s.pin p).fault then s else s.faultChannel p 7) s).raise .fio 4)
  else .next s

/-- A group is sagged: its channels are held off at once (R455). -/
def State.sagGroup (s : State) (g : Nat) : State :=
  if 1 ≤ g ∧ g ≤ 6 then
    let old := s
    (((s.onGroup g fun x => { x with sag := true, held := true }).switched old).raise .fio 0).record 4 0x61 [BitVec.ofNat 8 g, 1]
  else s

/-- The group is sagged. -/
def State.isSagged (s : State) (g : Nat) : Bool := decide (1 ≤ g) && ((s.fio.groups[g - 1]?.map fun (g : GroupSt) => g.sag).getD false)

/-- DETECTOR_PROOF (R450): the channels whose current comparator, and the groups whose sag comparator, failed to trip. -/
def execDetectorProof (failed : List Pin) (groups : BitVec 6) (s : State) : Answer :=
  let s := failed.foldl (fun (s : State) p =>
    let p := oddPin p.toNat
    if s.isChannel p ∧ s.isOn p then (s.faultChannel p 8).raise .fio 5 else s) s
  .next ((List.range 6).foldl (fun (s : State) g =>
    if bit groups g ∧ ¬ s.isSagged (g + 1) then (s.sagGroup (g + 1)).raise .fio 5 else s) s)

/-- OFF_CHANNEL_PROBE (R451): a channel that is commanded off, and whose reading of this take does not read off, is probed. -/
def execOffChannelProbe (pin : Pin) (result : ProbeResult) (s : State) : Answer :=
  let p := oddPin pin.toNat
  let r := (s.pin p).reading
  if ¬ s.isChannel p ∨ s.isOn p ∨ r.pin.toNat ≠ p ∨ readsOff (s.pinVolt p) r ∨ faultRestricts (s.pin p).fault then .next s
  else
    match result with
    | .tied other =>
      let q := oddPin other.toNat
      if s.isChannel q ∧ s.isOn q then .next (((s.faultChannel p 4).faultChannel q 4).raise .fio 3) else .next s
    | .supply => .next ((s.faultChannel p 2).raise .fio 2)
    | .zero => .next ((s.faultChannel p 3).raise .fio 2)

/-! ### Field supply -/

/-- GROUP_SAG (R455). -/
def execGroupSag (group : BitVec 3) (s : State) : Answer :=
  if s.isSagged group.toNat then .next s else .next (s.sagGroup group.toNat)

/-- SAG_RECOVER (R456): the flag clears; the channels follow again from the next take start. -/
def execSagRecover (group : BitVec 3) (s : State) : Answer :=
  let g := group.toNat
  if s.isSagged g then .next ((s.onGroup g fun x => { x with sag := false }).record 4 0x61 [BitVec.ofNat 8 g, 0]) else .next s

/-! ### Refresh of the lanes (R457, R458) -/

/-- A mode in which ACTIVE lanes send refresh tokens (R457). -/
def refreshMode (m : Mode) : Bool := m.runs || decide (m = .ready ∨ m = .integrating ∨ m = .witness)

/-- Lanes from which tokens are accepted. -/
def FioSt.refreshed (f : FioSt) : Nat := (LaneId.all.filter fun l => (f.tokens.get l).alive).length

/-- REFRESH_TOKEN (R457). -/
def execRefreshToken (lane : LaneId) (count : BitVec 16) (crcOk : Bool) (s : State) : Answer :=
  let t := s.fio.tokens.get lane
  let next : Bool := match t.count with | some n => decide (count = n + 1) | none => true
  if crcOk ∧ next ∧ refreshMode s.sys.mode ∧ (s.lane lane).active then
    let old := s
    let s := { s with fio := { s.fio with tokens := s.fio.tokens.set lane { count := some count, alive := true } } }
    .next ((s.switched old).count 232 8 0x83)
  else .next s

/-- REFRESH_SILENCE (R457, R458): no token of a lane has been accepted for 5 ms. Its elements open; with fewer than two lanes every
element opens. -/
def execRefreshSilence (lane : LaneId) (s : State) : Answer :=
  let old := s
  let s := { s with fio := { s.fio with tokens := s.fio.tokens.set lane { count := none, alive := false } } }
  if s.fio.refreshed < 2 then
    let s := { s with fio := { s.fio with silent := true, resume := false } }
    .next ((s.switched old).raiseIf (!old.fio.silent) .fio 7)
  else .next (s.switched old)

/-- REFRESH_RESUME (R458): two lanes have refreshed for 20 ms; outputs follow from the next take start. -/
def execRefreshResume (s : State) : Answer :=
  if s.fio.silent ∧ 2 ≤ s.fio.refreshed then .next { s with fio := { s.fio with resume := true } } else .next s

end Sys2Proof.Machine
end

