-- ==== Sys2Proof/Machine/Reel.lean ====
section
/-! DEFINITION. The Reel's own operations (13): the clear (R507), the ends of a clear and of a flush, tokens and rate settings (R502,
R511), reading (R505), the Dailies (R508), and the meanings of their commands. -/

namespace Sys2Proof.Machine

open Sys2Proof

/-! ### Clearing (R507) -/

/-- WCNT of the last record written. -/
def ReelSt.lastWcnt (r : ReelSt) : Word := r.base + BitVec.ofNat 32 r.wpos - 1

/-- The records at positions `i`, …, `wpos - 1`, as they stand. -/
def ReelSt.since (r : ReelSt) (i : Nat) : List Record :=
  ((List.range (r.wpos - i)).filterMap fun k => (r.mram.find? fun e => decide (e.1 = i + k)).map (·.2))

/-- A carried record at its new index (R507). -/
def carriedAt (base : Word) (i : Nat) (x : Record) : Record :=
  let y : Record := { x with wcnt := base + BitVec.ofNat 32 i, flags := setBit x.flags 3 true }
  { y with check := crc32c (recordBytes y) }

/-- Steps 3 and 4 of a clear: the new BASE, CLEARED at index 0, and the carried records from index 1. -/
def ReelSt.restart (r : ReelSt) (node : NodeId) (now : NetTime) (digest : BitVec 48) (keep : List Record) : ReelSt :=
  let base := r.lastWcnt + 1
  let body := reelOwn now 0x01 (toBytes 4 (BitVec.ofNat 32 r.wpos) ++ toBytes 2 (BitVec.ofNat 16 keep.length) ++ toBytes 6 digest)
  let m := mramSet r.mram 0 (recordAt node base 0 false body)
  let m := ((List.range keep.length).zip keep).foldl (fun m e => mramSet m (e.1 + 1) (carriedAt base (e.1 + 1) e.2)) m
  { r with mram := m, base := base, wpos := keep.length + 1, full := false, almost := false, clearing := true, clearReq := none,
           carried := BitVec.ofNat 11 keep.length
           daily := { r.daily with written := r.daily.written + BitVec.ofNat 32 (keep.length + 1) } }

/-- A refused clear (R507, R512). -/
def State.clearRefused (s : State) (outcome : BitVec 2) : State :=
  State.raise { s with reel := { s.reel with clearOut := outcome, clearReq := none } } .reel 5

/-- A clear (R507); `readTo` is the WCNT of the last record that the clearing party has read. -/
def State.clearReel (s : State) (q : ClearReq) : State :=
  let s := if s.reel.full then s else s.reelFlush
  let s := { s with reel := { s.reel with flushing := false } }
  let r := s.reel
  let n := (r.lastWcnt - q.readTo).toNat
  if later q.readTo r.lastWcnt then s.clearRefused 3
  else if 1024 < n then s.clearRefused 2
  else { s with reel := r.restart s.net.node s.now q.digest (r.since (r.wpos - n)) }

/-- A clear that waits proceeds once neither a flush nor another clear runs (R507). -/
def State.clearWaiting (s : State) : State :=
  match s.reel.clearReq with
  | some q => if s.reel.flushing ∨ s.reel.clearing then s else s.clearReel q
  | none => s

/-- A clear is asked for. -/
def State.askClear (s : State) (readTo : Word) (digest : BitVec 48) : State :=
  State.clearWaiting { s with reel := { s.reel with clearReq := some { readTo := readTo, digest := digest } } }

/-- REEL_CLEAR (R507), authorised. -/
def execReelClear (readTo : Word) (digest : BitVec 48) (s : State) : Answer := .next (s.askClear readTo digest)

/-- REEL_CLEAR_DONE (R507): recording resumes from the buffer. -/
def execReelClearDone (s : State) : Answer :=
  if s.reel.clearing then
    let s := State.raise { s with reel := { s.reel with clearing := false, clearOut := 1 } } .reel 4
    .next s.reelFlushNow.clearWaiting
  else .next s

/-- REEL_FLUSH_DONE (R500, R507). -/
def execReelFlushDone (s : State) : Answer := .next (State.clearWaiting { s with reel := { s.reel with flushing := false } })

/-! ### Rate limits -/

/-- RATE_TOKEN_REFILL (R502): the bucket of a limited code gains one token. -/
def execRateTokenRefill (code : Byte) (s : State) : Answer :=
  .next { s with reel := onBucket s.reel code fun b => { b with tokens := if b.tokens.toNat < b.burst.toNat then b.tokens + 1 else b.tokens } }

/-- A write to RATE_CFG (R511): an unlimited code, or a value out of range, changes nothing. -/
def State.writeRate (value : Word) (s : State) : State :=
  let rate : Byte := field value 0 8
  let burst : Byte := field value 8 8
  if 1 ≤ rate.toNat ∧ rate.toNat ≤ 64 ∧ 1 ≤ burst.toNat then
    { s with reel := onBucket s.reel s.reel.rateSel fun b =>
        { b with rate := rate, burst := burst, tokens := if burst.toNat < b.tokens.toNat then burst else b.tokens } }
  else s

/-- RATE_CFG_WRITE (R511). -/
def execRateCfgWrite (value : Word) (s : State) : Answer := .next (s.access 0 0x40080054 true (State.writeRate value))

/-! ### Reading -/

/-- REEL_READ (R505, R639): the positions from `first` on, at most 2,048, each with its record where it is written (R497). -/
def execReelRead (first : BitVec 23) (count : BitVec 12) (s : State) : Answer :=
  .next (s.emit (.records (((List.range (min count.toNat 2048)).map fun i => first.toNat + i).filterMap fun i =>
    if i < 4194304 then some (i, recordWritten s.reel i) else none)))

/-! ### The Dailies (R508) -/

/-- Rounds as whole seconds. -/
def roundSeconds (n : Nat) : Nat := n * roundTicks / secondTicks

/-- Rounds as whole minutes. -/
def roundMinutes (n : Nat) : Nat := n * roundTicks / (60 * secondTicks)

/-- The (length, rounds) pairs in ascending length. -/
def lengthInsert (e : Nat × Nat) : List (Nat × Nat) → List (Nat × Nat)
  | [] => [e]
  | f :: l => if e.1 < f.1 then e :: f :: l else f :: lengthInsert e l

/-- The pairs of DAILY_4: three lengths, and 0xFF for all longer ones. -/
def dailyLengths (l : List (Nat × Nat)) : Bytes :=
  let l := l.foldl (fun a e => lengthInsert e a) []
  let pair := fun (e : Nat × Nat) => BitVec.ofNat 8 e.1 :: toBytes 2 (satNat 16 (roundMinutes e.2) : BitVec 16)
  (l.take 3).flatMap pair ++
    (match l.drop 3 with
     | [] => []
     | r => pair (255, (r.map (·.2)).sum))

/-- Scrub counts of all lanes together: data corrections, check-symbol repairs, latch repairs. -/
def State.scrubSums (s : State) : Three Word :=
  let m := fun (l : LaneId) => (s.lane l).mem
  { a := (m .a).corr + (m .b).corr + (m .c).corr
    b := (m .a).chkRep + (m .b).chkRep + (m .c).chkRep
    c := (m .a).latchRep + (m .b).latchRep + (m .c).latchRep }

/-- The DATA of the eight Dailies. -/
def State.dailyData (s : State) (day : Word) : List Bytes :=
  let d := s.reel.daily
  let w := fun (n : Nat) => toBytes 4 (satNat 32 n : Word)
  let sums := s.scrubSums
  [toBytes 4 (if s.port.ptp.locked then day else 0) ++ toBytes 4 d.takes ++ toBytes 2 d.lowest ++ [d.cuts, d.restarts],
   w (roundSeconds d.secVital) ++ w (roundSeconds d.secDegr) ++ w (roundSeconds d.secComm),
   w (roundSeconds d.secOut.a) ++ w (roundSeconds d.secOut.b) ++ w (roundSeconds d.secOut.c),
   (List.range 6).flatMap fun i =>
     toBytes 2 (satNat 16 (roundMinutes (LaneId.all.foldl (fun m l => max m ((d.steps.get l).getD i 0)) 0)) : BitVec 16),
   dailyLengths d.lengths,
   toBytes 4 (sums.a - d.corrBase.a) ++ toBytes 4 (sums.b - d.corrBase.b) ++ toBytes 4 (sums.c - d.corrBase.c),
   toBytes 4 d.stale ++ toBytes 4 d.ackMiss ++ toBytes 4 d.codeErr,
   toBytes 4 d.written ++ toBytes 4 d.suppressed ++ toBytes 2 (BitVec.ofNat 16 (s.reel.wpos * 1000 / 4194304)) ++ toBytes 2 s.pair.wrapAge]

/-- The Dailies are due (R508): while UTC is locked, at a take start on a new day, and otherwise 8,437,500 rounds after the last ones. -/
def State.dailiesDue (s : State) (day : Word) : Bool :=
  let d := s.reel.daily
  if s.port.ptp.locked then decide (s.take.point = .started ∧ day ≠ d.day) else decide (d.since.toNat + 8437500 ≤ s.now.round.toNat)

/-- DAILIES (R508): `day` is the UTC day number, which counts while UTC is locked. The accumulators start anew. -/
def execDailies (day : Word) (s : State) : Answer :=
  if ¬ s.dailiesDue day then .next s
  else
  let data := s.dailyData day
  let s := ((List.range 8).zip data).foldl (fun (s : State) e => s.record 5 (BitVec.ofNat 8 (0xD0 + e.1)) e.2) s
  .next { s with reel := { s.reel with
    daily := { DailySt.reset with
      corrBase := s.scrubSums, since := s.now.round, day := if s.port.ptp.locked then day else s.reel.daily.day } } }

end Sys2Proof.Machine
end

