-- ==== Sys2Proof/Machine/Coordinator.lean ====
section
/-! DEFINITION. The coordinator (15): the sending of a broadcast mailbox (R542, R547), the comparison of the copies (R544), lane mailboxes
(R550, R551), coordinator restart (R539, R557), software events (R562), locks (R555 to R557), the start of a lane wrap (R410, R411),
what the coordinator refuses by itself (R279, R489) and records (R498), and the meanings of their commands. -/

namespace Sys2Proof.Machine

open Sys2Proof

/-! ### Reason and COMMAND records -/

/-- A refusal that appears in REASON at once: staging and mailbox (R279, R489). REASON_TAKE follows R19. -/
def State.reasonNow (s : State) (code : Byte) (scope : BitVec 3) (item : BitVec 16) : State :=
  let w := reasonWord code scope item
  { s with sys := { s.sys with reason := w, reasonTake := s.take.num }
           mirror := { s.mirror with regs := mirrorSet s.mirror.regs 0x40000028 w } }

/-- A COMMAND record (R498): message type, certificate digest, outcome. -/
def State.commandRecord (s : State) (type : BitVec 16) (client : BitVec 48) (outcome : Byte) : State :=
  s.record 6 0x78 (toBytes 2 type ++ toBytes 6 client ++ [outcome])

/-! ### Broadcast mailboxes -/

/-- A lane's copy of a broadcast mailbox. -/
def Lane.copyOf (l : Lane) (k : Nat) : MbxCopy := l.mbx.getD k { words := [], len := 0, full := false, cmp := none }

/-- A broadcast mailbox as the coordinator wrote it. -/
def State.bcBox (s : State) (k : Nat) : BcBox := s.mbx.bc.getD k { words := [], len := 8, wake := false, mstat := 0 }

/-- A broadcast mailbox changed. -/
def State.onBox (s : State) (k : Nat) (f : BcBox → BcBox) : State :=
  { s with mbx := { s.mbx with bc := s.mbx.bc.set k (f (s.bcBox k)) } }

/-- A lane whose domain is off and can be powered (R547, R612, R618). -/
def Lane.dark (l : Lane) : Bool := !l.stat.domainOn && !l.thermal && decide (l.rails = 0xF)

/-- The wake of R547: dark domains power up. -/
def State.wakeDomains (s : State) (k : Nat) : State :=
  let ls := s.lanesWith Lane.dark
  let s := ls.foldl (fun (s : State) l =>
    s.onLane l fun x => x.onStat fun t => { t with domainOn := true, wokenAt := some s.take.num }) s
  if ls = [] then s else s.onBox k fun b => { b with wake := true }

/-- A GO that takes (R540, R542): the message stands in the copies of every lane that is powered, and FULL sets for those that are
ACTIVE or RECOVERING. -/
def State.sendBox (s : State) (k : Nat) (words : List Word) (len : BitVec 5) : State :=
  let s := s.onBox k fun b => { b with words := words, len := len }
  let s := s.onLanes fun _ l =>
    if l.stat.domainOn then
      { l with mbx := l.mbx.set k { words := words, len := len, full := l.evaluates, cmp := none } }
    else l
  s.wakeDomains k

/-- What the voter compares of a copy (R544). -/
def copyKey (c : MbxCopy) : Bool × BitVec 5 × List Word := (c.full, c.len, c.words.take c.len.toNat)

/-- The comparison of one mailbox that holds a FULL bit (R544). -/
def State.compareBox (s : State) (k : Nat) : State :=
  if ¬ s.boxFull k then s
  else
    let key := fun (l : LaneId) => copyKey ((s.lane l).copyOf k)
    let ls := s.lanesWith Lane.active
    let eq := ls.all fun l => decide (key l = key s.voiceId)
    let s' := s.onLanes fun _ l =>
      if (l.copyOf k).full then { l with mbx := l.mbx.set k { (l.copyOf k) with cmp := some eq } } else l
    if eq = false then State.raise { s' with mbx := { s'.mbx with disagree := satInc s'.mbx.disagree } } .mbx 14
    else
      LaneId.all.foldl (fun (t : State) l =>
        if (t.lane l).stat.state = .recovering ∧ key l ≠ key s.voiceId then t.dropLane l 0x0A else t) s'

/-- MAILBOX_COMPARE (R544): slot 12 of the first round of a take. A woken domain is powered by then (R547). -/
def execMailboxCompare (s : State) : Answer :=
  if s.take.point ≠ .started then .next s
  else
    let s := s.reachTime (s.take.start.plus 3000)
    let s := { s with mbx := { s.mbx with bc := s.mbx.bc.map fun (b : BcBox) => { b with wake := false } } }
    .next ((List.range 4).foldl State.compareBox s)

/-! ### Domains of lanes (R547, R590) -/

/-- A counter belongs to a lane (R588). -/
def laneCounter (l : LaneId) (i : Nat) : Bool :=
  decide (64 * l.num ≤ i ∧ i < 64 * l.num + 64) || decide (192 + 8 * l.num ≤ i ∧ i < 200 + 8 * l.num)

/-- A lane's domain powers off: its counters and their configuration are lost (R590). -/
def State.domainOff (s : State) (l : LaneId) : State :=
  let s := s.onLane l fun x => x.onStat fun t => { t with domainOn := false, wokenAt := none }
  let cs := ((List.range s.pmc.counters.length).zip s.pmc.counters).map fun (e : Nat × Counter) =>
    if laneCounter l e.1 then { cfg := 0, val := 0 } else e.2
  { s with pmc := { s.pmc with counters := cs } }

/-- WAKE_POWER_OFF (R547): no command has started the woken lane within 64 takes. -/
def execWakePowerOff (lane : LaneId) (s : State) : Answer :=
  let t := (s.lane lane).stat
  match t.wokenAt with
  | some n =>
    if (t.state = .shutdown ∨ t.state = .unusable) ∧ 64 ≤ (s.take.num - n).toNat then .next (s.domainOff lane) else .next s
  | none => .next s

/-! ### Lane mailboxes (R550, R551) -/

/-- A lane's mailbox. -/
def Lane.boxOf (l : Lane) (m : Nat) : LaneBox := l.boxes.getD m { words := [], len := 0, full := false }

/-- A message enters a free lane mailbox, and GO raises RX_GO. -/
def State.fillBox (s : State) (l : LaneId) (m : Nat) (words : List Word) : State :=
  (s.onLane l fun x =>
    { x with boxes := x.boxes.set m { words := words, len := BitVec.ofNat 5 words.length, full := true } }).raise .mbx (4 * l.num + m)

/-- LANE_MESSAGE (R551): a lane that finds its mailbox FULL waits. A GO takes only for 8 to 16 words. -/
def execLaneMessage (lane : LaneId) (m : BitVec 2) (words : List Word) (s : State) : Answer :=
  let x := s.lane lane
  if ¬ s.supplied ∨ ¬ x.stat.domainOn ∨ words.length < 8 ∨ 16 < words.length then .next s
  else if (x.boxOf m.toNat).full then .next (s.onLane lane fun x => { x with unsent := x.unsent ++ [(m, words)] })
  else .next (s.fillBox lane m.toNat words)

/-- The next message that waits for mailbox `m` of a lane enters it. -/
def State.nextMessage (s : State) (l : LaneId) (m : BitVec 2) : State :=
  match (s.lane l).unsent.find? fun u => decide (u.1 = m) with
  | some u => (s.onLane l fun x => { x with unsent := x.unsent.erase u }).fillBox l m.toNat u.2
  | none => s

/-- LANE_MAILBOX_READ (R551): the coordinator reads D(LEN - 1), and FULL clears. -/
def execLaneMailboxRead (lane : LaneId) (m : BitVec 2) (s : State) : Answer :=
  if s.coordUp ∧ ((s.lane lane).boxOf m.toNat).full then
    .next ((s.onLane lane fun x =>
      { x with boxes := x.boxes.set m.toNat { (x.boxOf m.toNat) with full := false } }).nextMessage lane m)
  else .next s

/-! ### Coordinator restart (R539, R557) -/

/-- Every control-port session closes (R539, R635). -/
def State.closeSessions (s : State) : State :=
  let ls := s.port.sessions
  ls.foldl (fun (s : State) (c : TlsSession) => s.emit (.closed c.sid)) { s with port := { s.port with sessions := [] } }

/-- What the coordinator's memory held is lost: proposals, accepted messages, the time map (R539, R650). The highest UTC is kept in its
store (R636). -/
def PortSt.lose (p : PortSt) : PortSt :=
  { p with proposals := [], ordered := [], items := [], auths := [], locals := []
           ptp := { PortSt.reset.ptp with highUtc := p.ptp.highUtc } }

/-- The wrap window counts as closed while UTC is not locked (R409, R412). -/
def PairSt.closeWindow (p : PairSt) : PairSt := { p with winOpen := false, cycleDone := false }

/-- A coordinator restart (R539): the lanes, the voter, the network interface and the field side keep running. -/
def State.coordRestart (s : State) : State :=
  if ¬ s.coordUp then s
  else
    let s := { s with mbx := { s.mbx with coordRst := satInc s.mbx.coordRst, restarting := true } }
    let s := s.closeSessions
    let s := { s with port := s.port.lose, pair := s.pair.closeWindow }
    ((s.releaseLocks 0).releaseLocks 4).releaseLocks 5

/-- COORD_WATCHDOG (R539). -/
def execCoordWatchdog (s : State) : Answer := .next s.coordRestart

/-- COORDINATOR_RAIL_OUT (R614, R539). -/
def execCoordinatorRailOut (s : State) : Answer := .next s.coordRestart

/-- COORD_RESTART_DONE (R539). -/
def execCoordRestartDone (s : State) : Answer := .next { s with mbx := { s.mbx with restarting := false } }

/-! ### Software events (R562) -/

/-- A write to EVT_SWSET. -/
def State.swSet (value : Word) (s : State) : State := (List.range 16).foldl (fun (s : State) i => s.raiseIf (bit value i) .sw i) s

/-- EVT_SWSET. -/
def execEvtSwset (value : Word) (s : State) : Answer := .next (s.access 0 0x400A00C8 true (State.swSet value))

/-! ### Locks (R555 to R557) -/

/-- The address of a lock register. -/
def lockAddr (i : BitVec 5) : Word := 0x400C0000 + 4 * i.zeroExtend 32

/-- A read of a lock by a master: it acquires a free lock. -/
def State.lockRead (m : BitVec 3) (i : BitVec 5) (s : State) : State :=
  match s.locks.getD i.toNat none with
  | none => { s with locks := s.locks.set i.toNat (some m), bus := .data 0 }
  | some h =>
    if h = m then { s with bus := .data 0 }
    else
      let s := s.countN 240 8 { code := 0xA5, level := none, master := some m, addr := none } 1
      State.raise { s with bus := .data (place 32 0 h + 1) } .sem 0

/-- A write to a lock by a master: the holder releases it by writing its own identifier. -/
def State.lockWrite (m : BitVec 3) (i : BitVec 5) (value : Word) (s : State) : State :=
  if s.locks.getD i.toNat none = some m ∧ value = place 32 0 m then { s with locks := s.locks.set i.toNat none }
  else s.raise .sem 1

/-- A write to SEM_FORCE by master 0 releases the locks named. -/
def State.lockForce (value : Word) (s : State) : State :=
  let held := (List.range 32).any fun i => bit value i && (s.locks.getD i none).isSome
  State.raiseIf { s with locks := ((List.range s.locks.length).zip s.locks).map fun e => if bit value e.1 then none else e.2 } held .sem 3

/-- SEM_LOCK_READ (R555). Two reads that overlap in time stand in the queue in the order in which the mutual-exclusion element
decides them (R556). -/
def execSemLockRead (master : BitVec 3) (i : BitVec 5) (s : State) : Answer :=
  .next (s.access master (lockAddr i) true (State.lockRead master i))

/-- SEM_LOCK_WRITE (R555). -/
def execSemLockWrite (master : BitVec 3) (i : BitVec 5) (value : Word) (s : State) : Answer :=
  .next (s.access master (lockAddr i) true (State.lockWrite master i value))

/-- SEM_FORCE (R557). -/
def execSemForce (master : BitVec 3) (value : Word) (s : State) : Answer :=
  .next (s.access master 0x400C0124 (decide (master = 0)) (State.lockForce value))

/-! ### Local messages and the start of a lane wrap -/

/-- A local message waits for a mailbox that an order list leaves free (R639): eight header words without SEQ, TAKE and CHECK, and its
arguments. -/
def State.queueLocal (s : State) (words : List Word) (sid : Option Nat) (msgId : Word) : State :=
  { s with port := { s.port with locals := s.port.locals ++ [{ words := words, sid := sid, msgId := msgId }] } }

/-- The words of a message before SEQ, TAKE and CHECK are known (R541): code, SOURCE, AUTH and arguments. -/
def draftWords (code : BitVec 16) (source : Word) (auth : List Word) (args : List Word) : List Word :=
  [code.zeroExtend 32, 0, 0, source] ++ auth ++ [0] ++ args

/-- WRAP_START_DECISION (R410, R411): the coordinator commands the next lane of the cycle, no earlier than 1,000 takes after the previous
lane became ACTIVE. -/
def execWrapStartDecision (s : State) : Answer :=
  let p := s.pair
  if s.coordUp ∧ s.wrapAllowed ∧ (¬ p.cycleOn ∨ 1000 ≤ (s.take.num - p.cycleFrom).toNat)
      ∧ ¬ (s.port.locals.any fun (m : LocalMsg) => decide (field (mbxWord m.words 0) 0 16 = 0x102#16)) then
    .next (s.queueLocal (draftWords 0x102 0 [0, 0, 0] [place 32 0 p.cycleNext]) none 0)
  else .next s

end Sys2Proof.Machine
end

