-- ==== Sys2Proof/Machine/Counters.lean ====
section
/-! DEFINITION. The registers that have rows of their own: the performance counters (R590 to R602), TAKE_START and MARGIN_LOW (R58), and
WRAP_WIN (R420, R425). A row that names no master is an access of the coordinator (log 35). -/

namespace Sys2Proof.Machine

open Sys2Proof

/-! ### Performance counters -/

/-- A word of the mirrors. -/
def State.mirrorWord (s : State) (a : Word) : Word := wordFor s.mirror.regs a

/-- The event codes that the block of a counter offers (R588, R591). -/
def offeredEvents (i : Nat) : List Byte :=
  if i < 192 then [0x00, 0x01, 0x02, 0x03, 0x04, 0x05, 0x06]
  else if i < 216 then [0x20, 0x21, 0x22, 0x23, 0x24, 0x25, 0x40, 0x41]
  else if i < 232 then [0x60, 0x61, 0x62, 0x63, 0x64, 0x65, 0x66, 0x67]
  else if i < 240 then [0x80, 0x81, 0x82, 0x83, 0x84]
  else [0xA0, 0xA1, 0xA2, 0xA3, 0xA4, 0xA5]

/-- The event codes that carry a master (R591). -/
def carriesMaster (c : Byte) : Bool := ([0x40, 0x41, 0x66, 0x84, 0xA1, 0xA2, 0xA5] : List Byte).contains c
/-- The event codes that carry an address. -/
def carriesAddr (c : Byte) : Bool := ([0x40, 0x41, 0x66, 0x84, 0xA1, 0xA2] : List Byte).contains c

/-- A value is refused as the configuration of counter `i` (R592). -/
def badConfig (i : Nat) (v : Word) : Bool :=
  let code := field v 0 8
  let priv := field v 9 2
  let sequencer := decide (192 ≤ i ∧ i < 216)
  !(offeredEvents i).contains code || decide (priv = 3) || (decide (priv ≠ 0) && !sequencer)
    || (bit v 11 && !carriesMaster code)
    || (decide (field v 16 2 ≠ 0) && !carriesAddr code)

/-- The counter lies in a lane whose domain is off (R590). -/
def State.darkCounter (s : State) (i : Nat) : Bool := LaneId.all.any fun l => laneCounter l i && !(s.lane l).stat.domainOn

/-- The selected counter, where it exists and is powered. -/
def State.selected (s : State) : Option (Nat × Counter) :=
  let i := s.pmc.sel.toNat
  if s.darkCounter i then none else (s.pmc.counters[i]?).map fun c => (i, c)

/-- The selected counter replaced. -/
def State.setCounter (s : State) (i : Nat) (c : Counter) : State :=
  { s with pmc := { s.pmc with counters := s.pmc.counters.set i c } }

/-- A write to PMC_CFG (R592, R605); a counter that does not exist or is dark takes nothing. -/
def State.pmcCfg (value : Word) (s : State) : State :=
  match s.selected with
  | some (i, c) => if badConfig i value then s.raise .pmc 3 else s.setCounter i { c with cfg := value &&& 0x000F7FFF }
  | none => s

/-- CLEAR (R598). -/
def State.pmcClear (s : State) : State :=
  if s.pmc.frozen then
    { s with pmc := { s.pmc with counters := s.pmc.counters.map fun (c : Counter) => { c with val := 0 }, wraps := 0 } }
  else s.raise .pmc 4

/-- A write to PMC_CTL (R595, R598, R603): CLEAR acts on the state before the write, then FREEZE issues the token or the release. -/
def State.pmcCtl (value : Word) (s : State) : State :=
  let s := if bit value 3 then s.pmcClear else s
  let p := { s.pmc with onCut := bit value 1, onWrap := bit value 2, seqIrq := bit value 4 }
  { s with pmc := if bit value 0 then pmcIssue p s.now 1 else { p with freeze := false, frozen := false, stopped := false } }

/-- A wrap that the write's own access event brings about freezes the counters in the instant of the write, and a release does not undo it
(R597): `old` stands before the access, `s` at the write, `t` after it. -/
def State.freezePrevails (old s t : State) : State :=
  if s.pmc.freeze ∧ ¬ old.pmc.freeze ∧ ¬ t.pmc.freeze then
    { t with pmc := { t.pmc with freeze := true, frozen := s.pmc.frozen, stopped := s.pmc.stopped } }
  else t

/-- A write to PMC_PRESET_LO (R598). -/
def State.pmcPreset (value : Word) (s : State) : State :=
  if s.pmc.frozen then
    match s.selected with
    | some (i, c) => s.setCounter i { c with val := s.pmc.presetHi ++ value }
    | none => s
  else s.raise .pmc 4

/-- A read of PMC_VAL_LO (R590, R599): bits 31:0 of the selected counter, and bits 47:32 go into PMC_VAL_HI. -/
def State.pmcRead (s : State) : State :=
  match s.selected with
  | some (_, c) => { s with pmc := { s.pmc with valHi := field c.val 32 16 }, bus := .data (field c.val 0 32) }
  | none =>
    State.raiseIf { s with pmc := { s.pmc with valHi := 0 }, bus := .data 0 } (s.darkCounter s.pmc.sel.toNat) .pmc 5

/-- A read of PMC_FRZ_LO (R602). -/
def State.frzRead (s : State) : State :=
  { s with pmc := { s.pmc with frzHi := field s.pmc.frzTime 32 32 }, bus := .data (field s.pmc.frzTime 0 32) }

/-- A read of TAKE_START_LO (R58). -/
def State.startRead (s : State) : State :=
  { s with take := { s.take with startHi := s.mirrorWord 0x40010018 }, bus := .data (s.mirrorWord 0x40010014) }

/-- A write to MARGIN_LOW_CLR (R58). -/
def State.marginClr (s : State) : State := { s with take := { s.take with marginLow := 1000 } }

/-- A write to WRAP_WIN (R420, R425): a field out of range leaves the register unchanged. -/
def State.wrapWin (value : Word) (s : State) : State :=
  let start := (field value 0 11).toNat
  let len := (field value 16 11).toNat
  if start ≤ 1439 ∧ 1 ≤ len ∧ len ≤ 1440 then { s with pair := { s.pair with wrapWin := value &&& 0x07FF07FF } } else s

/-! ### Meanings -/

/-- PMC_CFG_WRITE (R592). -/
def execPmcCfgWrite (value : Word) (s : State) : Answer := .next (s.access 0 0x400D0024 true (State.pmcCfg value))

/-- PMC_FREEZE (R595): a write to PMC_CTL with FREEZE = 1. -/
def execPmcFreeze (value : Word) (s : State) : Answer := .next (s.access 0 0x400D0000 true (State.pmcCtl (setBit value 0 true)))

/-- PMC_RELEASE (R595, R597): a write to PMC_CTL with FREEZE = 0. -/
def execPmcRelease (value : Word) (s : State) : Answer :=
  .next (s.access 0 0x400D0000 true fun t => State.freezePrevails s t (State.pmcCtl (setBit value 0 false) t))

/-- PMC_FROZEN (R596): every counter has stopped, 1.0 us after the issue. -/
def execPmcFrozen (s : State) : Answer :=
  if s.pmc.stopped ∧ ¬ s.pmc.frozen then .next (State.raise { s with pmc := { s.pmc with frozen := true } } .pmc 1) else .next s

/-- PMC_CLEAR (R598): CLEAR = 1 with every other field as it stands. -/
def execPmcClear (s : State) : Answer := .next (s.access 0 0x400D0000 true State.pmcClear)

/-- PMC_PRESET (R598). -/
def execPmcPreset (value : Word) (s : State) : Answer := .next (s.access 0 0x400D0034 true (State.pmcPreset value))

/-- PMC_VAL_READ (R599). -/
def execPmcValRead (s : State) : Answer := .next (s.access 0 0x400D0028 true State.pmcRead)

/-- PMC_FRZ_READ (R602). -/
def execPmcFrzRead (s : State) : Answer := .next (s.access 0 0x400D000C true State.frzRead)

/-- TAKE_START_READ (R58). -/
def execTakeStartRead (s : State) : Answer := .next (s.access 0 0x40010014 true State.startRead)

/-- MARGIN_LOW_CLR (R58): any value. -/
def execMarginLowClr (_value : Word) (s : State) : Answer := .next (s.access 0 0x40010034 true State.marginClr)

/-- WRAP_WIN_WRITE (R420, R425). -/
def execWrapWinWrite (value : Word) (s : State) : Answer := .next (s.access 0 0x40060064 true (State.wrapWin value))

end Sys2Proof.Machine
end

