-- ==== Sys2Proof/Machine/Update.lean ====
section
/-! DEFINITION. Staging, copying and activation (14): the staging messages (R514 to R518), the copy journal (R521, R522), scheduling
(R523, R527), the two-phase commit (R524 to R526), the rounds at which an activation takes effect (R528) and the firmware roll (R529),
and the meanings of their commands. -/

namespace Sys2Proof.Machine

open Sys2Proof

/-! ### Staging -/

/-- The certificate digest of a source; 0 for the service port (R514). -/
def Source.digest : Source → BitVec 48
  | .service => 0
  | .client d => d

/-- A staging message is refused with a reason (R518): outcome REFUSED_STATE of R647 in its COMMAND record. -/
def State.stageRefuse (s : State) (type : BitVec 16) (src : Source) (code : Byte) (item : BitVec 16) : State :=
  (s.reasonNow code 5 item).commandRecord type (Source.digest src) 5

/-- A staging message that the state or its sender does not admit (R515); no reason code of R280 names this. -/
def State.stageTurnAway (s : State) (type : BitVec 16) (src : Source) : State := s.commandRecord type (Source.digest src) 5

/-- Staging with nothing in it (R515). -/
def StgSt.empty (g : StgSt) : StgSt := { g with state := .empty, owner := none, manifest := [], blocks := [], use := .none }

/-- The first of MANIFEST, SIGNATURE and KEY_KIND that a manifest fails (R517, R280). -/
def Lane.manifestFail (l : Lane) (m : Bytes) : Option Byte :=
  if ¬ manifestOk m then some 3 else if ¬ l.signatureOk m then some 4 else if ¬ l.keyFits m then some 5 else none

/-- STAGE_OPEN (R515, R517). -/
def execStageOpen (src : Source) (manifest : Bytes) (s : State) : Answer :=
  let g := s.stg
  if ¬ s.coordUp then .next s
  else if g.state = .empty then
    match s.voice.manifestFail manifest with
    | some c => .next (s.stageRefuse 0x401 src c 0)
    | none => .next { s with stg := { g with state := .receiving, owner := some src, manifest := manifest, blocks := [] } }
  else if g.state = .receiving ∧ g.manifest = manifest then .next { s with stg := { g with owner := some src } }
  else .next ((s.raise .stg 0).stageRefuse 0x401 src 1 0)

/-- STAGE_BLOCK (R517): the later copy of a block replaces the earlier one. -/
def execStageBlock (src : Source) (n : BitVec 9) (data : Bytes) (s : State) : Answer :=
  let g := s.stg
  if ¬ s.coordUp then .next s
  else if g.state ≠ .receiving ∨ g.owner ≠ some src ∨ manBlocks g.manifest ≤ n.toNat then .next (s.stageTurnAway 0x402 src)
  else if data.length ≠ 65536 ∨ crc32 data ≠ manCrc g.manifest n.toNat then
    .next ((s.raise .stg 1).stageRefuse 0x402 src 2 (n.zeroExtend 16))
  else
    .next { s with stg := { g with blocks := (g.blocks.filter fun b => decide (b.1 ≠ n.toNat)) ++ [(n.toNat, data)] } }

/-- Every block of the staged image is there. -/
def StgSt.complete (g : StgSt) : Bool := (List.range (manBlocks g.manifest)).all fun n => g.blocks.any fun b => decide (b.1 = n)

/-- The staged image, its blocks in order. -/
def StgSt.image (g : StgSt) : Image where
  manifest := g.manifest
  blocks := (List.range (manBlocks g.manifest)).map fun n => ((g.blocks.find? fun b => decide (b.1 = n)).map (·.2)).getD []

/-- The first section that fails its digest. -/
def StgSt.badSection (g : StgSt) : Option SectEntry :=
  (manSections g.manifest).find? fun x => decide (sha512 (sectBytes g.image x) ≠ x.digest)

/-- A copy that stopped at an unreadable block goes on once its image is staged again (R522). -/
def StgSt.resume (g : StgSt) : StgSt :=
  if g.copyOpen ∧ g.copyDig = digest16 g.manifest then { g with state := .inUse, use := .copy, resumed := true } else g

/-- STAGE_CLOSE (R517). -/
def execStageClose (src : Source) (s : State) : Answer :=
  let g := s.stg
  if ¬ s.coordUp then .next s
  else if g.state ≠ .receiving ∨ g.owner ≠ some src then .next (s.stageTurnAway 0x403 src)
  else if ¬ g.complete then .next (s.stageRefuse 0x403 src 3 0)
  else
    match g.badSection with
    | some x =>
      let g := { g with blocks := g.blocks.filter fun b => decide (b.1 < x.first ∨ x.first + blocksFor x.len ≤ b.1) }
      .next ((State.raise { s with stg := g } .stg 1).stageRefuse 0x403 src 7 (BitVec.ofNat 16 x.first))
    | none => .next (State.raise { s with stg := StgSt.resume { g with state := .staged, use := .none } } .stg 3)

/-- STAGE_DISCARD at the coordinator (R515), and whether it is accepted. -/
def State.stageDiscard (s : State) (src : Source) (authorised : Bool) : State × Bool :=
  let g := s.stg
  let owner := decide (g.owner = some src)
  if (g.state = .receiving ∧ owner) ∨ (g.state = .staged ∧ (owner ∨ authorised)) then ({ s with stg := g.empty }, true)
  else (s.stageTurnAway 0x404 src, false)

/-- STAGE_DISCARD (R515). -/
def execStageDiscard (src : Source) (authorised : Bool) (s : State) : Answer :=
  if s.coordUp then .next (s.stageDiscard src authorised).1 else .next s

/-- STAGING_LAPSE (R518): 600 s without an accepted message from the owner. -/
def execStagingLapse (s : State) : Answer :=
  if s.stg.state = .receiving ∧ s.stg.owner.isSome then .next (State.raise { s with stg := s.stg.empty } .stg 2) else .next s

/-! ### The copy journal (R521, R522) -/

/-- COMPLETE (R516, R519, R521): the active area holds the image, the header is cleared, staging is empty. -/
def StgSt.copied (g : StgSt) : StgSt :=
  let i := g.image
  let g := if g.copyStation then { g with station := if manKind g.manifest = 3 then g.station ++ [i] else [i] }
    else { g with firmware := some i }
  StgSt.empty { g with copyOpen := false, copyNext := 0, copyCnt := 0, copyDig := 0, resumed := false }

/-- What COMPLETE does beside the areas: an activation is done in this unit, and a partial image committed in service is noticed (R297,
R522). -/
def State.copyComplete (s : State) : State :=
  let g := s.stg
  let pend := decide (g.phase = .commit ∨ g.phase = .rolling)
  let s' : State := { s with stg := { g.copied with phase := if pend then .done else g.phase, local_ := g.local_ && !pend } }
  let s' := s'.raiseIf pend .stg 5
  if g.copyStation ∧ manKind g.manifest = 3 ∧ s.sys.mode.runs then
    let d := slice (manLog g.manifest) 0 8
    s'.queueLocal (draftWords 0x104 0 [0, 0, 0] [getBE 32 d 0 4, getBE 32 d 4 4]) none 0
  else s'

/-- COPY_BLOCK (R521, R522): the next block is written, read back and marked DONE, or proves uncorrectable in staging. -/
def execCopyBlock (readable : Bool) (s : State) : Answer :=
  let g := s.stg
  if ¬ s.coordUp ∨ ¬ g.copyOpen ∨ g.use ≠ .copy then .next s
  else if ¬ readable then
    .next (State.raise { s with stg := { g with
      state := .receiving, owner := none, use := .none, blocks := g.blocks.filter fun b => decide (b.1 ≠ g.copyNext) } } .stg 6)
  else
    let s : State := { s with stg := { g with copyNext := g.copyNext + 1 } }
    .next (if g.copyNext + 1 < g.copyCnt then s else s.copyComplete)

/-! ### Scheduling (R523, R527) -/

/-- An activation is pending. -/
def StgSt.busy (g : StgSt) : Bool :=
  decide (g.phase = .preparing ∨ g.phase = .ready ∨ g.phase = .commit ∨ g.phase = .rolling)

/-- The digest of the section of a type. -/
def sectDigest (m : Bytes) (ty : Byte) : Option Bytes := ((manSections m).find? fun x => decide (x.type = ty)).map (·.digest)

/-- The kind of activation of the staged image (R523): `some (Except code)` where its condition fails with a reason code. -/
def StgSt.actKind (g : StgSt) : Option (BitVec 2 × Bool) :=
  let m := g.manifest
  let k := manKind m
  if k = 1 then
    some (0, match g.firmware with
      | some f => decide (manPairClass m = manPairClass f.manifest) && decide (manPairClass m ≠ 0)
      | none => false)
  else if k = 2 then
    match g.station.head? with
    | some i =>
      let a := i.manifest
      if (([4, 5, 6] : List Byte).all fun t => decide (sectDigest m t = sectDigest a t)) ∧ manNCfg m = manNCfg a ∧ manNMax m = manNMax a
        then some (1, true) else some (2, true)
    | none => some (2, true)
  else if k = 4 then some (3, true)
  else none

/-- The participants of an activation (R524): the lead, the second if it is integrated, and a witness that is a CX-4096 with a witness
image (log 32). -/
def State.participants (s : State) : List NodeId :=
  [s.net.node] ++ (if s.pair.partnerRuns then [s.pair.partner] else []) ++ (if Config.witnessModule then [s.pair.witNode] else [])

/-- ACT_SCHEDULE at the lead (R523), and whether it is accepted; `client` is the confirmer. -/
def State.actSchedule (s : State) (round : BitVec 40) (digest : Quad) (client : BitVec 48) : State × Bool :=
  let g := s.stg
  let ahead := round.toNat - s.now.round.toNat
  if s.sys.role = .lead ∧ g.state = .staged ∧ digest16 g.manifest = digest ∧ 4096 ≤ ahead ∧ ahead ≤ 8437500 ∧ ¬ g.busy then
    match g.actKind with
    | some (k, true) =>
      ({ s with stg := { g with phase := .preparing, kind := k, cause := 0, round := round, digest := digest, parts := s.participants,
                                readys := [], decided := none, prepared := false, local_ := false } }, true)
    | some (_, false) => ((s.reasonNow 6 5 0).commandRecord 0x410 client 5, false)
    | none => (s.commandRecord 0x410 client 5, false)
  else (s.commandRecord 0x410 client 5, false)

/-- ACT_SCHEDULE (R523). -/
def execActSchedule (round : BitVec 40) (digest : Quad) (s : State) : Answer :=
  if s.coordUp then .next (s.actSchedule round digest 0).1 else .next s

/-- An activation that is not yet committed ends in this unit, with its service load. -/
def State.actAbort (s : State) (cause : Byte) : State :=
  s.dropService.abortActivation cause

/-- The witness decides ABORT (R526); it ends its own part with it. -/
def State.decideAbort (s : State) (cause : Byte) : State :=
  let s := if s.stg.busy then s.actAbort cause else s
  { s with stg := { s.stg with decided := some false, cause := cause } }

/-- An activation is open at the witness. -/
def State.witnessOpen (s : State) : Bool :=
  decide (s.sys.mode = .witness) && s.coordUp && decide (s.stg.parts ≠ []) && decide (s.stg.decided = none)

/-- ACT_CANCEL, authorised (R526): the witness decides ABORT; the lead refuses its own part, which the witness answers with ABORT. -/
def State.actCancel (s : State) : State × Bool :=
  if s.witnessOpen then (s.decideAbort 7, true)
  else if s.stg.phase = .preparing ∨ s.stg.phase = .ready then (s.answerRefuse 7, true)
  else (s, false)

/-- ACT_CANCEL (R526). -/
def execActCancel (s : State) : Answer := if s.coordUp then .next s.actCancel.1 else .next s

/-- ACT_LOCAL, authorised (R527): a module that runs no takes of its own activates its staged image at its next start. -/
def State.actLocal (s : State) : State × Bool :=
  let g := s.stg
  let k := manKind g.manifest
  if ¬ s.sys.mode.runs ∧ g.state = .staged ∧ k ≠ 3 ∧ ¬ g.busy then
    ({ s with stg := { g with phase := .commit, kind := if k = 1 then 0 else if k = 2 then 2 else 3, cause := 0, round := 0
                              digest := digest16 g.manifest, local_ := true, state := .inUse, use := .activation } }, true)
  else (s, false)

/-- ACT_LOCAL (R527). -/
def execActLocal (s : State) : Answer := if s.coordUp then .next s.actLocal.1 else .next s

/-! ### The two-phase commit (R524 to R526) -/

/-- The first condition of R525 that a participant fails, as a cause of R531. -/
def State.prepareFail (s : State) (digest : Quad) (kind : BitVec 2) : Option Byte :=
  let m := s.sys.mode
  if ¬ (s.stg.state = .staged ∧ digest16 s.stg.manifest = digest) then some 2
  else if ¬ (m = .vital ∨ m = .degraded ∨ m = .commissioning ∨ m = .witness) then some 3
  else if (kind = 1 ∨ kind = 2) ∧ m ≠ .witness ∧ s.voice.vit.reg.stage ≠ .none then some 4
  else none

/-- The service load begins (R525): the shadow planes fill anew, and staging is in use for it. -/
def State.serviceLoad (s : State) : State :=
  let s := s.dropShadow.onLanes fun _ l => if l.evaluates then { l with mem := { l.mem with loaded := 0 } } else l
  { s with stg := { s.stg with service := .loading, state := .inUse, use := .activation } }

/-- A participant takes PREPARE (R524, R525). -/
def State.takePrepare (s : State) (digest : Quad) (round : BitVec 40) (kind : BitVec 2) (parts : List NodeId) : State :=
  let s := { s with stg := { s.stg with phase := .preparing, cause := 0, digest := digest, round := round, kind := kind, parts := parts,
                                        prepared := true, local_ := false } }
  match s.prepareFail digest kind with
  | some c => s.answerRefuse c
  | none => if kind = 1 ∧ s.sys.mode ≠ .witness then s.serviceLoad else s.answerReady

/-- PREPARE (R524, R525): a repeated one changes nothing. -/
def execPrepare (digest : Quad) (round : BitVec 40) (kind : BitVec 2) (parts : List NodeId) (s : State) : Answer :=
  let g := s.stg
  if s.coordUp ∧ parts.contains s.net.node ∧ (¬ g.busy ∨ (g.phase = .preparing ∧ ¬ g.prepared ∧ g.digest = digest)) then
    .next (s.takePrepare digest round kind parts)
  else .next s

/-- The witness's own answer, where it takes part. -/
def State.ownAnswer (s : State) : State :=
  if s.stg.phase = .ready then { s with stg := { s.stg with readys := [s.net.node] } }
  else if s.stg.phase = .preparing ∧ s.stg.cause ≠ 0 then s.decideAbort s.stg.cause
  else s

/-- The witness decides COMMIT once every participant has answered READY (R526). -/
def State.decideCommit (s : State) : State :=
  let g := s.stg
  if g.parts.all fun n => g.readys.contains n then
    { s with stg := { g with decided := some true, phase := if g.phase = .ready then .commit else g.phase } }
  else s

/-- ACT_REQ (R524): the witness takes charge of the activation, and prepares itself where it takes part. -/
def execActReq (digest : Quad) (round : BitVec 40) (kind : BitVec 2) (parts : List NodeId) (s : State) : Answer :=
  let g := s.stg
  if s.sys.mode ≠ .witness ∨ ¬ s.coordUp ∨ (g.parts ≠ [] ∧ g.decided = none) ∨ (g.digest = digest ∧ g.round = round ∧ g.decided.isSome) then
    .next s
  else
    let s := { s with stg := { g with digest := digest, round := round, kind := kind, parts := parts, readys := [], decided := none } }
    if parts.contains s.net.node then .next (s.takePrepare digest round kind parts).ownAnswer.decideCommit else .next s

/-- ACT_READY (R526): before the deadline. -/
def execActReady (node : NodeId) (digest : Quad) (s : State) : Answer :=
  let g := s.stg
  if s.witnessOpen ∧ g.digest = digest ∧ g.parts.contains node ∧ s.now.round.toNat + 128 < g.round.toNat then
    .next (State.decideCommit { s with stg := { g with readys := if g.readys.contains node then g.readys else g.readys ++ [node] } })
  else .next s

/-- ACT_REFUSE (R526). -/
def execActRefuse (node : NodeId) (digest : Quad) (cause : Byte) (s : State) : Answer :=
  if s.witnessOpen ∧ s.stg.digest = digest ∧ s.stg.parts.contains node then .next (s.decideAbort cause) else .next s

/-- ACT_COMMIT (R526). -/
def execActCommit (digest : Quad) (s : State) : Answer :=
  if s.coordUp ∧ s.stg.phase = .ready ∧ s.stg.digest = digest then .next { s with stg := { s.stg with phase := .commit } } else .next s

/-- ACT_ABORT (R526). -/
def execActAbort (digest : Quad) (cause : Byte) (s : State) : Answer :=
  if s.coordUp ∧ (s.stg.phase = .preparing ∨ s.stg.phase = .ready) ∧ s.stg.digest = digest then .next (s.actAbort cause) else .next s

/-- Network time comes to a round, unless it has passed. -/
def State.reachRound (s : State) (r : Nat) : State :=
  if s.now.round.toNat < r then s.reach (NetTime.atRound (BitVec.ofNat 40 r)) else s

/-- ACT_DEADLINE (R526): ACT_ROUND - 128. -/
def execActDeadline (s : State) : Answer :=
  if s.witnessOpen then .next ((s.reachRound (s.stg.round.toNat - 128)).decideAbort 1) else .next s

/-- NO_DECISION_ABORT (R526): ACT_ROUND - 16. -/
def execNoDecisionAbort (s : State) : Answer :=
  if s.coordUp ∧ (s.stg.phase = .preparing ∨ s.stg.phase = .ready) then
    .next ((s.reachRound (s.stg.round.toNat - 16)).actAbort 6)
  else .next s

/-- SERVICE_COMMIT (R528): in the boundary work of the last take that starts before ACT_ROUND. -/
def execServiceCommit (s : State) : Answer :=
  .next (if s.take.point = .deadline ∧ s.sys.mode.runs then s.commitService.sayIfDone else s)

/-! ### ACT_ROUND and the roll (R528, R529) -/

/-- A computing module (R8, R389): one that runs takes, or may come to. -/
def State.computes (s : State) : Bool := s.sys.mode.runs || decide (s.sys.mode = .integrating) || decide (s.sys.mode = .ready)

/-- What ACT_ROUND brings to a unit that holds a COMMIT. -/
def State.actRound (s : State) : State :=
  let g := s.stg
  let wit := decide (s.sys.mode = .witness)
  if g.kind = 0 then
    let s := { s with stg := { g with phase := .rolling } }
    if s.computes ∧ s.sys.role ≠ .lead then s.orderly .activation else s
  else if g.kind = 2 then (if s.computes ∨ wit then s.orderly .activation else s)
  else if g.kind = 3 then
    if wit then s.orderly .activation else { s with stg := { g with phase := .done, state := .staged, use := .none } }
  else s

/-- ACT_ROUND_REACHED (R528, R529). -/
def execActRoundReached (s : State) : Answer :=
  if s.coordUp ∧ s.stg.phase = .commit ∧ ¬ s.stg.local_ then .next (s.reachRound s.stg.round.toNat).actRound else .next s

/-- ROLL_RESIGN (R529): the second has been VITAL for 100 takes, and the lead resigns. -/
def execRollResign (s : State) : Answer :=
  if s.coordUp ∧ s.stg.phase = .rolling ∧ s.sys.role = .lead ∧ s.sys.mode.runs ∧ 100 ≤ s.stg.vitalTakes ∧ ¬ s.pair.resigned then
    .next ((State.emit { s with pair := { s.pair with resigned := true, sending := false } } (.resign s.net.node)).pairFlag 10)
  else .next s

/-- ROLL_WITNESS_RESTART (R529): 100 takes after the former lead has become VITAL as second. -/
def execRollWitnessRestart (s : State) : Answer :=
  if s.sys.mode = .witness ∧ s.coordUp ∧ s.stg.phase = .rolling ∧ ¬ s.wrap.running then .next (s.orderly .activation) else .next s

/-- ROLL_HALTED (R529): a participant is not back within 600 s of its restart. -/
def execRollHalted (s : State) : Answer :=
  if s.coordUp ∧ s.stg.phase = .rolling then .next ((s.actAbort 9).raise .stg 7) else .next s

end Sys2Proof.Machine
end

