-- ==== Sys2Proof/Machine/Boot.lean ====
section
/-! DEFINITION. From OFF to READY: what a loss of supply and an entry into BOOT leave (R469, R480, R516, R522, R546, R565, R610), the
reload (R520), VERIFY (R105, R393, R396, R473, R480), the restart from CUT (R470, R549), the end of the settle period (R478), stand-in and
CUE (R414, R415, R617), and the meanings of their commands. -/

namespace Sys2Proof.Machine

open Sys2Proof

/-! ### What survives -/

/-- The non-volatile memory of a lane (R232, R392, R480, R573, R628). -/
def Lane.kept (l : Lane) : Lane :=
  { Lane.reset with
    ckptA := l.ckptA, ckptB := l.ckptB, ckptLast := l.ckptLast, store := l.store, disabled := l.store.disabled
    wrap := { l.wrap with runs := [] }
    keys := l.keys, witStore := l.witStore, thermal := l.thermal }

/-- A lane at its start in a module that stays supplied: counters, causes and samples stand as well (log 37). -/
def Lane.restarted (l : Lane) : Lane :=
  let k := l.kept
  let t := l.stat
  { k with
    wrap := l.wrap
    stat := { k.stat with
      state := if l.wrap.verdict = 3 then .unusable else .active
      cause := t.cause, causeTake := t.causeTake, exclCnt := t.exclCnt, dbg := t.dbg }
    mem := { k.mem with
      corr := l.mem.corr, chkRep := l.mem.chkRep, uncorr := l.mem.uncorr, latchRep := l.mem.latchRep, rdig := l.mem.rdig }
    verify := l.verify
    railCnt := l.railCnt, sample := l.sample, rails := l.rails }

/-- What the rings' interface keeps while the module stays supplied: its counters. -/
def NetSt.restarted (n : NetSt) : NetSt :=
  let ring := fun (x : RingSt) =>
    { RingSt.reset with inSignal := x.inSignal, outSignal := x.outSignal, rxOk := x.rxOk, crcErr := x.crcErr, winRej := x.winRej }
  { NetSt.reset with
    node := n.node, contended := n.contended, rival := n.rival, slateDiff := n.slateDiff, ringA := ring n.ringA, ringB := ring n.ringB, ringDiff := n.ringDiff
    slateMiss := n.slateMiss, silentCnt := n.silentCnt, guardBlk := n.guardBlk, csSel := n.csSel, shown := n.shown }

/-- What the coordinator's store keeps of the pair registers (R420). -/
def PairSt.kept (p : PairSt) : PairSt :=
  { PairSt.reset with wrapCfg := p.wrapCfg, wrapWin := p.wrapWin, wrapAge := p.wrapAge, wrapPart := p.wrapPart }

/-- What the pair registers keep while the module stays supplied. -/
def PairSt.restarted (p : PairSt) : PairSt :=
  { p.kept with
    diffCnt := p.diffCnt, absentCnt := p.absentCnt, withheldCnt := p.withheldCnt, linkDownCnt := p.linkDownCnt
    grantCnt := p.grantCnt, lostCnt := p.lostCnt }

/-- What the Reel keeps: its store and its rate settings (R497, R511), and what the Dailies have counted of their interval (R508; DEDUCED,
log 81). -/
def ReelSt.kept (r : ReelSt) : ReelSt :=
  { ReelSt.reset with
    mram := r.mram, base := r.base, wpos := r.wpos, full := r.full, almost := r.almost, daily := r.daily
    buckets := r.buckets.map fun (b : Bucket) =>
      { b with tokens := b.burst, supp := 0, first := 0, last := 0, lastAt := NetTime.zero } }

/-- The counts of scrubbing begin again at 0, and the Dailies go on from there (R508). -/
def State.rebase (s : State) : ReelSt :=
  let r := s.reel.kept
  let b := r.daily.corrBase
  let n := s.scrubSums
  { r with daily := { r.daily with corrBase := { a := b.a - n.a, b := b.b - n.b, c := b.c - n.c } } }

/-- The module without supply: everything but its non-volatile stores, the feeds and lines outside it, and network time falls to its
reset value. -/
def State.lose (s : State) (m : Mode) : State :=
  let z := State.reset
  { z with
    pending := s.pending, now := s.now, out := s.out, free := s.free
    sys := { z.sys with mode := m, cold := s.sys.cold, warm := s.sys.warm }
    laneA := s.laneA.kept, laneB := s.laneB.kept, laneC := s.laneC.kept
    net := { z.net with node := s.net.node }
    pair := s.pair.kept
    reel := s.rebase
    stg := { s.stg with service := .none, prepared := false, restartDue := false, vitalTakes := 0, startMark := none }
    wrap := { z.wrap with
      module := s.wrap.module, moduleOk := s.wrap.moduleOk, nvFail := s.wrap.nvFail, cycle := s.wrap.cycle
      wrapCycle := s.wrap.wrapCycle, cutCycle := s.wrap.cutCycle }
    pwr := { z.pwr with
      feedAOk := s.pwr.feedAOk, feedBOk := s.pwr.feedBOk, holdupOk := s.pwr.holdupOk && decide (m = .standIn)
      charged := s.pwr.charged && decide (m = .standIn)
      intruded := s.pwr.intruded, intruPend := s.pwr.intruPend, standinEn := s.pwr.standinEn, sense := s.pwr.sense, cue := s.pwr.cue
      fails := s.pwr.fails, lastFail := s.pwr.lastFail, devKey := s.pwr.devKey, devCert := s.pwr.devCert }
    port := { z.port with ptp := { z.port.ptp with highUtc := s.port.ptp.highUtc } } }

/-! ### Entry into BOOT -/

/-- Why the module enters BOOT. -/
inductive BootWhy where
  | supply | cut | restart | cue | activation
  deriving DecidableEq, Repr

/-- A POWER record (R498, R613) with the feed voltages in 0.1 V, as measured now (log 36). -/
def State.powerRecord (s : State) (code : Byte) : State :=
  let a := Config.feedReading s.free
  let b := Config.feedReading (s.free + 1)
  let volt := fun (w : Word) => BitVec.ofNat 16 ((field w 0 16).toNat / 10)
  let s : State := { s with free := s.free + 2, pwr := { s.pwr with feedA := a, feedB := b } }
  s.record 7 0x70 ([code] ++ toBytes 2 (volt a) ++ toBytes 2 (volt b))

/-- The copy that this start owes a pending activation (R516, R522): `true` into the station area. A computing module that holds a
witness image copies nothing. -/
def State.dueCopy (s : State) : Option Bool :=
  let g := s.stg
  let wit := decide (manKind (newestManifest g.station) = 4)
  let due := decide (g.phase = .rolling) || (decide (g.phase = .commit) && (g.local_ || decide (g.round.toNat ≤ s.now.round.toNat)))
  if g.use ≠ .activation ∨ ¬ due then none
  else if g.kind = 0 then some false
  else if g.kind = 2 then some true
  else if g.kind = 3 ∧ (wit ∨ g.local_) then some true
  else none

/-- Staging at a start (R516, R522): a copy that is open goes on, one that is due begins, an activation that this start has overtaken
ends, and any other use but a pending activation is over. -/
def State.bootStaging (s : State) : State :=
  let g := s.stg
  if g.copyOpen then { s with stg := { g with resumed := true } }
  else
    match s.dueCopy with
    | some station => { s with stg := { openCopy g station with phase := g.phase } }
    | none =>
      if g.phase = .preparing ∨ ((g.phase = .ready ∨ g.phase = .commit) ∧ g.kind = 1) then s.abortActivation 3
      else if g.state = .inUse ∧ ¬ (g.use = .activation ∧ g.busy) then
        { s with stg := { g with state := .staged, use := .none } }
      else s

/-- The result store holds no module wrap that lets this start go without one (R415, R565). -/
def State.wrapDue (s : State) (why : BootWhy) : Bool :=
  let w := s.wrap
  match why with
  | .activation => !w.wrapCycle.isSome
  | .cue => !(w.moduleOk && w.wrapCycle.isSome)
  | _ =>
    !w.moduleOk ||
      (match w.wrapCycle, w.cutCycle with
       | none, _ => true
       | some n, some c => decide (n.toNat ≤ c.toNat)
       | some _, none => false)

/-- The supply bus feeds the regulators again: every rail comes into its window but where a regulator stands shut down (R614, R615;
DEDUCED, log 40). -/
def State.railsUp (s : State) : State := s.onLanes fun _ l => { l with rails := if l.thermal then 0 else 0xF }

/-- An erasure of the device key that came while no Reel was there (R627). -/
def State.dueIntrusion (s : State) : State :=
  if s.pwr.intruPend then
    State.raise (State.powerRecord { s with pwr := { s.pwr with intruPend := false } } 0x0C) .pwr 9
  else s

/-- The module enters BOOT (R469): from OFF and STAND-IN everything volatile is lost already; from the other modes registers and
counters stand, and what belongs to running starts anew. -/
def State.enterBoot (s : State) (why : BootWhy) : State :=
  let s := s.mergeReports.closeSessions
  let held := s.locks.any fun h => h.isSome
  let y := s.sys
  let s := State.setMode { s with sys := { y with role := .none } } .boot
  let s := { s with
    laneA := s.laneA.restarted, laneB := s.laneB.restarted, laneC := s.laneC.restarted
    take := { TakeSt.reset with
      marginLow := s.take.marginLow, lenCnt := s.take.lenCnt, ovrCnt := s.take.ovrCnt, ovrLast := s.take.ovrLast }
    sys := { s.sys with vitalEn := false, modePend := none, settling := false, settleLeft := 0, autoBlocked := false,
                        autoStart := decide (why = BootWhy.cut), fwVersion := 0, imgId := 0, imgVersion := 0 }
    vote := { s.vote with agreed := 0, agreedTake := 0, ckptValid := false, slotDig := Three.rep none }
    net := s.net.restarted
    pair := s.pair.restarted
    wit := State.reset.wit
    fio := { s.fio with cmd := Three.rep 0, enable := false, tokens := FioSt.reset.tokens, silent := true, resume := false
                        snapOk := false, snapBad := false, fsAlive := false }
    stg := { s.stg with service := .none, prepared := false, restartDue := false, vitalTakes := 0, startMark := none }
    mbx := { MbxSt.reset with disagree := s.mbx.disagree, drops := s.mbx.drops }
    locks := List.replicate 32 none
    port := s.port.lose }
  let s := (s.raiseIf held .sem 2).bootStaging
  if s.wrapDue why then s.startWrap .boot .a else s

/-! ### Supply returns (R611) -/

/-- POWER_ON (R611, R613, R634): the supply bus has stayed in its range for 200 ms; a new supply cycle begins. -/
def execPowerOn (s : State) : Answer :=
  if s.sys.mode = .off ∨ (s.sys.mode = .boot ∧ s.wrap.cycle = 0) then
    let s := { s with
      net := { s.net with node := Config.nodeId }
      wrap := { s.wrap with cycle := s.wrap.cycle + 1 }
      mirror := State.reset.mirror }
    let s := s.railsUp.enterBoot .supply
    let s := ((s.powerRecord 0x06).raiseIf s.pwr.lastFail .pwr 3).dueIntrusion
    .next { s with pwr := { s.pwr with lastFail := false } }
  else .next s

/-! ### Reload and VERIFY -/

/-- RELOAD_DONE (R469, R520, R577): no copy is open and slices 64 to 68 have passed; every lane loads the active area. -/
def execReloadDone (s : State) : Answer :=
  let w := s.wrap
  if s.sys.mode = .boot ∧ s.coordUp ∧ ¬ w.running ∧ w.module = 1 ∧ w.moduleOk ∧ ¬ s.stg.copyOpen then
    let chain := s.stg.station
    let s := s.onLanes fun id l => (l.load id chain).reloadLatches id
    let fw := (s.stg.firmware.map fun (i : Image) => manVersion i.manifest).getD 0
    .next (State.setMode (State.showImage { s with sys := { s.sys with fwVersion := fw } }) .verify)
  else .next s

/-- A lane's own verification (R105, R396, R520, R576): VERIFY_STAT, and whether it may join. -/
def Lane.verifySelf (l : Lane) (id : LaneId) (chain : List Image) : Lane × Bool :=
  if l.wrap.verdict = 3 then (l, false)
  else if manKind (newestManifest chain) = 4 then (l, l.chainOk chain)
  else
    let l := l.noteVerify (l.verified id) (l.chainOk chain && !l.relocMissing id)
    (l, l.passed)

/-- What a lane that fails its verification latches: the first test of the image slice that it fails (R279, R280). -/
def Lane.verifyFault (l : Lane) (id : LaneId) (chain : List Image) : Option (Byte × BitVec 16) :=
  firstFail (l.checkCtx id { scope := 0, item := 0, set := 0, slice := 0, start := 0, seq := 0, result := none } chain none false).imageActive

/-- A reason of VERIFY (R279): with REASON and REASON_TAKE at once, since no take runs (log 13), and a CHECK record. -/
def State.verifyReason (s : State) (code : Byte) (scope : BitVec 3) (item : BitVec 16) : State :=
  let s := s.reasonNow code scope item
  let s := { s with mirror := { s.mirror with regs := mirrorSet s.mirror.regs 0x4000002C s.take.num } }
  s.record 5 0x32 (toBytes 4 (reasonWord code scope item) ++ toBytes 4 s.take.num)

/-- The content of a restart store that the comparison of R480 covers. -/
def RestartStore.content (r : RestartStore) : Bool × List ForceEntry × BitVec 16 × List NetTime :=
  (r.commissioning, r.blocks, r.disabled, r.cuts)

/-- The lanes of `ls` whose store no other of them shares. -/
def State.oddStores (s : State) (ls : List LaneId) : List LaneId :=
  ls.filter fun l => ls.all fun k => decide (k = l) || decide ((s.lane k).store.content ≠ (s.lane l).store.content)

/-- The module takes the restart store from the lanes that passed (R480): their union where they differ, with MODE_SEL =
COMMISSIONING. -/
def State.takeStores (s : State) (ls : List LaneId) : State :=
  let st := fun (l : LaneId) => (s.lane l).store
  let odd := s.oddStores ls
  if odd = [] ∨ ls.length < 2 then
    { s with sys := { s.sys with commissioning := (st (ls.headD .a)).commissioning } }
  else
    let blocks := ls.foldl (fun b l => b ++ (st l).blocks.filter fun e => !b.contains e) []
    let dis := ls.foldl (fun m l => m ||| (st l).disabled) 0
    let s := ls.foldl (fun (s : State) l => s.onLane l fun x =>
      { x with disabled := dis, store := { x.store with commissioning := true, blocks := blocks, disabled := dis } }) s
    let s := { s with sys := { s.sys with commissioning := true } }
    let mask : Byte := odd.foldl (fun m l => setBit m l.num true) 0
    (s.raise .sys 7).record 5 0x13 [mask]

/-- The claim and holder that a witness starts from (R392, R393). -/
def State.witnessStart (s : State) : State :=
  let c := s.voice.witClaim
  { s with wit := { s.wit with claim := c.1, holder := c.2 } }

/-- The splice marker is examined before VERIFY ends (R301): the module remembers it for its start, every lane comes up with the
marker's regions disabled and restrictive, and a marker whose partial image the active area already holds is removed. -/
def State.startMarked (s : State) : State :=
  let mk := s.markerSet
  let s := s.onLanes fun _ l => l.onReg (markRegions mk)
  { s with stg := { s.stg with startMark := mk, marker := if (mk.map (·.2)).getD false then none else s.stg.marker } }

/-- VERIFY_STAT shows the verification at once, since no take runs (R115; log 13). -/
def State.showVerify (s : State) : State :=
  { s with mirror := { s.mirror with meas := mirrorSet s.mirror.meas 0x40030080 (verifyWord s) } }

/-- VERIFY_COMPLETE (R469, R473, R573): the lanes have verified and run the check of the module vital enable. A lane that does not
join is UNUSABLE (log 31). -/
def execVerifyComplete (s : State) : Answer :=
  if s.sys.mode ≠ .verify then .next s
  else
    let chain := s.stg.station
    let r := fun (l : LaneId) => (s.lane l).verifySelf l chain
    let try_ := s.lanesWith fun l => decide (l.stat.state ≠ .excluded)
    let ls := try_.filter fun l => (r l).2
    let bad := try_.filter fun l => !(r l).2
    let s := (LaneId.all.foldl (fun (s : State) l => s.setLane l (r l).1) s).showVerify
    let s := ls.foldl (fun (s : State) l => s.onLane l fun x => x.onStat fun t => { t.rest with state := .active }) s
    let s := bad.foldl (fun (s : State) l =>
      let s := match (if (s.lane l).wrap.verdict = 3 then none else (s.lane l).verifyFault l chain) with
        | some (code, item) => s.verifyReason code 7 item
        | none => s
      s.setLaneState l .unusable) s
    match ls.findSome? fun l => (s.lane l).verifyCheck l chain with
    | some (code, item) => .next ((s.verifyReason code 0 item).raise .sys 6)
    | none =>
      if ls.length < 2 then .next s
      else
        let s := (s.verifyReason 0 0 0).takeStores ls
        let s := State.startMarked { s with net := { s.net with sync := .listening } }
        if manKind (newestManifest chain) = 4 then .next ((s.witnessStart).setMode .witness) else .next (s.setMode .ready)

/-! ### Restart from CUT -/

/-- CUT_RESTART (R470): 2 s after the entry, unless the automatic restart is withheld. -/
def execCutRestart (s : State) : Answer :=
  if s.sys.mode = .cut ∧ ¬ s.sys.autoBlocked ∧ ¬ s.wrap.running then
    .next ((s.reachTime (s.sys.cutAt.plus (2 * secondTicks))).enterBoot .cut)
  else .next s

/-- RESTART, authorised, reaches the mode hardware (R549, R577): `none` where the mode does not accept it. -/
def State.commandRestart (s : State) : Option State :=
  if s.sys.mode = .cut ∧ s.sys.autoBlocked ∧ ¬ s.wrap.running then some (s.enterBoot .restart)
  else if s.sys.mode = .boot ∧ ¬ s.wrap.running ∧ s.wrap.module = 1 ∧ ¬ s.wrap.moduleOk then some (s.startWrap .boot .a)
  else none

/-- RESTART (R548, R549): in any other mode, the lanes give REFUSED_MODE. -/
def execRestart (s : State) : Answer :=
  match s.commandRestart with
  | some t => .next t
  | none => .next (s.rushRow .restart)

/-- RESTART_SETTLE_END (R478): the takes of the settle period have run. -/
def execRestartSettleEnd (s : State) : Answer := .next (if s.take.point = .started then s.endSettle else s)

/-! ### Stand-in and CUE (R414 to R416, R616, R617) -/

/-- The holder of the claim answers on the pair link (R414). -/
def State.linkHolder (s : State) : Bool := s.pair.rxUp && (Mode.ofCode s.pair.partMode).runs

/-- The modes from which the module may go to STAND-IN (R414, R469). -/
def State.mayStandIn (s : State) : Bool :=
  (decide (s.sys.mode = .ready) || (decide (s.sys.mode = .integrating) && !s.pair.loaded) || decide (s.sys.mode = .cut))
    && s.pwr.standinEn && !s.wrap.running

/-- STANDIN_TIMEOUT (R414): 60 s after READY, no holder of the claim answers on the pair link. -/
def execStandinTimeout (s : State) : Answer :=
  if s.mayStandIn ∧ s.sys.mode ≠ .cut ∧ ¬ s.linkHolder then .next (s.orderly .standIn) else .next s

/-- The module wakes from STAND-IN (R415, R613). -/
def State.wake (s : State) : State :=
  let s := State.enterBoot (State.railsUp { s with mirror := State.reset.mirror }) .cue
  ((s.powerRecord 0x0B).raise .pwr 8).dueIntrusion

/-- The module enters STAND-IN after its wrap test (R414, R616): only the CUE receiver and what R616 names stay powered. An edge that
came during the test wakes it at once (R617). -/
def State.enterStandIn (s : State) : State :=
  let held := s.pwr.cueHeld
  let s := (s.powerRecord 0x0A).setMode .standIn
  let s := s.closeSessions.reelFlush.lose .standIn
  if held then s.wake else s

/-- CUE_EDGE (R414, R415, R617): CUE changes. A change to active wakes the module in STAND-IN, and is held during the test that leads
there; a change to inactive sends a stand-in back. -/
def execCueEdge (s : State) : Answer :=
  let rise := !s.pwr.cue
  let s : State := { s with pwr := { s.pwr with cue := rise } }
  if rise then
    if s.sys.mode = .standIn then .next s.wake
    else if s.wrap.running ∧ s.wrap.why = .standIn then .next { s with pwr := { s.pwr with cueHeld := true } }
    else .next s
  else if s.mayStandIn then .next (s.orderly .standIn)
  else .next s

end Sys2Proof.Machine
end

