-- ==== Sys2Proof/Machine/Sessions.lean ====
section
/-! DEFINITION. Sessions and telegrams (09): the check units (R354 to R356), the receive path (R360 to R366), and the meanings of
SES_RX, CHECK_START, CHECK_FEED and CHECK_RESULT. -/

namespace Sys2Proof.Machine

open Sys2Proof

/-! ### Check units -/

/-- One accumulator of a lane's check unit (R355). -/
def Lane.acc (l : Lane) (rx : Bool) : Word := if rx then l.accRx else l.accTx

/-- An accumulator replaced. -/
def Lane.setAcc (l : Lane) (rx : Bool) (w : Word) : Lane := if rx then { l with accRx := w } else { l with accTx := w }

/-- The bytes of a write to FEED, in the order in which they are fed (R356). -/
def feedBytes (size : FeedSize) (value : Word) : Bytes :=
  match size with
  | .byte => toBytes 1 value
  | .half => toBytes 2 value
  | .word => toBytes 4 value

/-- CHECK_START (R355). -/
def execCheckStart (lane : LaneId) (rx : Bool) (s : State) : Answer := .next (s.onLane lane fun l => l.setAcc rx crcInit)

/-- CHECK_FEED (R355, R356). -/
def execCheckFeed (lane : LaneId) (rx : Bool) (size : FeedSize) (value : Word) (s : State) : Answer :=
  .next (s.onLane lane fun l => l.setAcc rx ((feedBytes size value).foldl (crcByte castagnoli) (l.acc rx)))

/-- CHECK_RESULT (R355): the finished code is the reply; the accumulator stays. -/
def execCheckResult (lane : LaneId) (rx : Bool) (s : State) : Answer :=
  .next { s with bus := .data ((s.lane lane).acc rx ^^^ 0xFFFFFFFF) }

/-! ### Receive path -/

/-- The used call sheet entry of a slot (R268, R319). -/
def callEntry (d : StationData) (slot : BitVec 12) : Option (BitVec 64) :=
  d.callSheet.find? fun e => decide (csSlot e = slot ∧ csSmode e ≠ 0)

/-- The lane is under a wrap test (R565, R579). -/
def State.underWrap (s : State) (l : LaneId) : Bool :=
  s.wrap.running && (decide (s.wrap.why ≠ .lane) || decide (s.wrap.lane = l))

/-- The receive path of a lane runs (R360): the lane is powered and not under test. -/
def State.receives (s : State) (l : LaneId) : Bool :=
  let x := s.lane l
  x.stat.domainOn && !x.thermal && decide (x.rails = 0xF) && !s.underWrap l

/-- How a receive path disposes of a frame (R361, R362). -/
inductive RxVerdict where
  | disabled | codeErr | wordErr | seqErr | seed | held
  deriving DecidableEq, Repr

/-- The frame that a payload spells, received in `round` at `stamp` (R351, R352). -/
def rxFrame (round : BitVec 40) (stamp : NetTime) (p : Bytes) : RxFrame :=
  let w : BitVec 16 := getBE 16 p 0 2
  { round := round, stamp := stamp, seq := getBE 32 p 6 4, claim := getBE 32 p 2 4, echo := getBE 32 p 10 4,
    elem := ofBytes 240 (slice p 14 30), diff := bit w 12, timeout := bit w 13 }

/-- Check 3 of R361. -/
def sesWordOk (boundary : Bool) (n : SesId) (w : BitVec 16) : Bool :=
  decide (field w 0 9 = n) && decide (field w 14 2 = 0#2) &&
    (if boundary then !bit w 9 && decide (field w 12 2 = 0#2) else bit w 9 && decide (field w 10 2 = 0#2))

/-- Check 4 of R361 with the seeds of R362: `round` is the ROUND of arrival, `held` the frame held. -/
def seqVerdict (boundary : Bool) (fresh : BitVec 8) (round : BitVec 40) (x : RxSes) (seq : Word) : RxVerdict :=
  if boundary then
    match x.next.or x.frame with
    | some f => if later seq f.seq then .held else .seqErr
    | none =>
      match x.seed with
      | some q => let d := (seq - q).toNat; if 1 ≤ d ∧ d ≤ fresh.toNat then .held else .seed
      | none => .seed
  else if seq = field round 0 32 then .held else .seqErr

/-- The checks of R361 in their order. -/
def Lane.rxVerdict (l : Lane) (n : SesId) (f : SlotRx) : RxVerdict :=
  let p := f.frame.payload
  let b := sesBoundary l.data n
  if ¬ (sesRecOf l.vit.ses n).enabled then .disabled
  else if ¬ checkedPayload p then .codeErr
  else if ¬ sesWordOk b n (getBE 16 p 0 2) then .wordErr
  else seqVerdict b (sesFresh (sesEntry l.data n)) f.round (rxOf l.rx n) (getBE 32 p 6 4)

/-- A response's claim is later than the module's own (R365), where it holds one. -/
def claimAhead (own : Option Word) (c : Word) : Bool := match own with | some o => later c o | none => false

/-- A frame that passed all checks is held (R361 to R366); `late` says that it waits for the next take (R363), `own` is the
module's claim. -/
def RxSes.hold (x : RxSes) (boundary late : Bool) (own : Option Word) (f : RxFrame) : RxSes :=
  let x := { x with rxOk := satInc x.rxOk, ever := true, seed := none, ahead := !boundary && claimAhead own f.claim
                    acked := x.acked || (!boundary && decide (x.sent = some f.echo)) }
  if late then { x with next := some f } else { x with frame := some f, next := none }

/-- What a lane keeps of a frame. -/
def Lane.rxKeep (l : Lane) (n : SesId) (late : Bool) (own : Option Word) (f : SlotRx) (v : RxVerdict) : Lane :=
  let x := rxOf l.rx n
  let g := rxFrame f.round f.stamp f.frame.payload
  let put := fun (y : RxSes) => { l with rx := rxInsert y l.rx }
  match v with
  | .disabled => l
  | .codeErr => put { x with codeErr := satInc x.codeErr }
  | .wordErr => put { x with wordErr := satInc x.wordErr }
  | .seqErr => put { x with seqErr := satInc x.seqErr }
  | .seed => put { x with seed := some g.seq }
  | .held => put (x.hold (sesBoundary l.data n) late own g)

/-- The receive path of one lane takes a frame with LEN = 48 (R361): its check unit's receive port runs over the payload, and a
response that reports DIFF or TIMEOUT is written to the Reel (R373). -/
def Lane.receive (l : Lane) (late : Bool) (own : Option Word) (f : SlotRx) : Lane × RxVerdict × SesId :=
  let n : SesId := ((callEntry l.data f.slot).map csSes).getD 0
  let v := l.rxVerdict n f
  let g := rxFrame f.round NetTime.zero f.frame.payload
  let y := l.rxKeep n late own f v
  let y := if v = .disabled then y
    else { y with accRx := (f.frame.payload.take 44).foldl (crcByte castagnoli) crcInit }
  let y := if v = .held ∧ ¬ sesBoundary l.data n ∧ (g.diff ∨ g.timeout) ∧ l.evaluates then
      y.submit 0x53 (toBytes 2 (n.zeroExtend 16 : BitVec 16) ++ [ofBit 0 g.diff ||| ofBit 1 g.timeout])
    else y
  (y, v, n)

/-- The frame waits for the next take (R363): the running take has started and not latched its inputs, and the stamp lies at or
after slot 16 of its first round. -/
def State.rxLate (s : State) (f : SlotRx) : Bool :=
  decide (s.take.point = .started) &&
    decide ((s.take.start.plus (16 * 250)).ticks ≤ f.stamp.ticks)

/-- One frame passes the lanes' receive paths. Flags and DIS_RX follow the lowest-lettered ACTIVE lane (R375, log 12). -/
def State.receiveSes (s : State) (f : SlotRx) : State :=
  let late := s.rxLate f
  let own := if s.pair.witLast.isSome then some s.pair.claim else none
  let voice := s.voiceId
  LaneId.all.foldl (fun (s : State) l =>
    if ¬ s.receives l then s
    else
      let r := (s.lane l).receive late own f
      let v := r.2.1
      let g := rxFrame f.round NetTime.zero f.frame.payload
      let b := sesBoundary (s.lane l).data r.2.2
      let s := (s.setLane l r.1).countN (192 + 8 * l.num) 8 { code := 0x25, level := none, master := none, addr := none } 1
      if l ≠ voice then s
      else
        let s : State := if v = .disabled then { s with ses := { s.ses with disRx := satInc s.ses.disRx } } else s
        let s : State := if v = .codeErr then
            { s with reel := { s.reel with daily := { s.reel.daily with codeErr := satInc s.reel.daily.codeErr } } } else s
        let s := (s.raiseIf (decide (v = .codeErr)) .ses 0).raiseIf (decide (v = .wordErr)) .ses 1
        let s := (s.raiseIf (decide (v = .seqErr)) .ses 2).raiseIf (decide (v = .disabled)) .ses 3
        let ok := decide (v = .held) && !b
        let s := ((s.raiseIf (ok && claimAhead own g.claim) .ses 5).raiseIf (ok && g.diff) .ses 6).raiseIf (ok && g.timeout) .ses 7
        if ok then s.seeClaim g.claim else s) s

/-- SES_RX: the next SES_RSP frame that the network interface has accepted passes the lanes' receive paths (R361). -/
def execSesRx (s : State) : Answer :=
  match s.net.delivered with
  | [] => .next s
  | f :: rest => .next (State.receiveSes { s with net := { s.net with delivered := rest } } f)

end Sys2Proof.Machine
end

