-- ==== Sys2Proof/Machine/Rings.lean ====
section
/-! DEFINITION. Frames on the rings (08): the link header (R312), the call sheet and the role view (R315, R319, R320), the slate
(R323), and what the module puts into its own slots (R324, R326, R357, R384, R390, R391, R405, R652). -/

namespace Sys2Proof.Machine

open Sys2Proof

/-! ### Link header (R312) -/

/-- SLOT. -/
def hSlot (h : BitVec 64) : BitVec 12 := field h 52 12
/-- SOURCE. -/
def hSource (h : BitVec 64) : NodeId := field h 40 12
/-- KIND. -/
def hKind (h : BitVec 64) : BitVec 4 := field h 36 4
/-- LEN. -/
def hLen (h : BitVec 64) : BitVec 6 := field h 30 6
/-- RING. -/
def hRing (h : BitVec 64) : BitVec 2 := field h 28 2
/-- DEST. -/
def hDest (h : BitVec 64) : NodeId := field h 16 12
/-- ROLE. -/
def hRole (h : BitVec 64) : BitVec 2 := field h 14 2

/-- The RING code of a ring. -/
def ringCode : Ring → BitVec 2
  | .a => 1
  | .b => 2

/-- A link header. -/
def mkHeader (slot : BitVec 12) (source : NodeId) (kind : BitVec 4) (len : BitVec 6) (ring : Ring) (dest : NodeId) (role : BitVec 2) :
    BitVec 64 :=
  place 64 52 slot ||| place 64 40 source ||| place 64 36 kind ||| place 64 30 len ||| place 64 28 (ringCode ring)
    ||| place 64 16 dest ||| place 64 14 role

/-- A frame with its link CRC (R311). -/
def mkFrame (hdr : BitVec 64) (payload : Bytes) : Frame :=
  { hdr := hdr, payload := payload, crc := crc32 (toBytes 8 hdr ++ payload), symOk := true }

/-- Every symbol is valid and the link CRC verifies (R311, R314). -/
def linkOk (f : Frame) : Bool :=
  f.symOk && decide (f.payload.length = 48) && decide (f.crc = crc32 (toBytes 8 f.hdr ++ f.payload))

/-- KIND and RING are valid, LEN is at most 48, and the reserved bits are 0 (R312 to R314). -/
def headerOk (h : BitVec 64) : Bool :=
  decide (1 ≤ (hKind h).toNat ∧ (hKind h).toNat ≤ 8) && decide (hRing h = 1 ∨ hRing h = 2) && decide ((hLen h).toNat ≤ 48)
    && decide (field h 0 14 = 0#14)

/-! ### Roles -/

/-- A frame matches the call sheet entry of its slot under the role view (R314, R315). -/
def State.entryFits (s : State) (e h : BitVec 64) : Bool :=
  let role : BitVec 2 := if csSmode e = 2 then field (csSender e) 0 2 else 0
  let src := hSource h
  let holder := s.pair.witHolder
  decide (csKind e = hKind h) && decide (hRole h = role) && (csDmode e || decide (hDest h = csDest e)) &&
    (if csSmode e = 1 then decide (src = csSender e)
     else if csSmode e = 2 then
       (if role = 1 then decide (src = holder ∨ holder = 0)
        else if role = 3 then decide (src = s.pair.witNode ∨ s.pair.witNode = 0)
        else decide (src ≠ holder))
     else decide (csSmode e = 3))

/-- The node that a role names, as a sender resolves it (R315). -/
def State.roleNode (s : State) (role : BitVec 12) : NodeId :=
  if role = 1 then s.pair.witHolder else if role = 3 then s.pair.witNode
  else if s.sys.role = .second then s.net.node else s.pair.partner

/-! ### The slate (R323) -/

/-- A slate's payload is well formed: CHECK, FMT, and the bits and bytes that are 0 (R323). -/
def slateOk (p : Bytes) : Bool :=
  checkedPayload p && decide (p.getD 0 0 = 1) && decide (field (p.getD 1 0) 4 4 = 0#4) && decide (p.getD 9 0 = 0)
    && allZero (slice p 34 10)

/-- The fields of a slate. -/
def slateOf (p : Bytes) : Slate where
  flags := p.getD 1 0
  master := getBE 12 p 2 2
  round := getBE 40 p 4 5
  takeNum := getBE 32 p 10 4
  nCur := p.getD 14 0
  nPend := p.getD 15 0
  pendRound := getBE 40 p 16 5
  inTake := p.getD 21 0
  claim := getBE 32 p 22 4
  logDig := getBE 64 p 26 8

/-- The payload of a slate. -/
def slateBytes (x : Slate) : Bytes :=
  sealPayload ([0x01, x.flags] ++ toBytes 2 (x.master.zeroExtend 16 : BitVec 16) ++ toBytes 5 x.round ++ [0] ++ toBytes 4 x.takeNum
    ++ [x.nCur, x.nPend] ++ toBytes 5 x.pendRound ++ [x.inTake] ++ toBytes 4 x.claim ++ toBytes 8 x.logDig)

/-- The fields that R325 compares differ. -/
def slatesDiffer (x y : Slate) : Bool :=
  decide (bit x.flags 0 ≠ bit y.flags 0 ∨ bit x.flags 3 ≠ bit y.flags 3 ∨ x.round ≠ y.round ∨ x.takeNum ≠ y.takeNum
    ∨ x.nCur ≠ y.nCur ∨ x.nPend ≠ y.nPend ∨ x.pendRound ≠ y.pendRound ∨ x.inTake ≠ y.inTake
    ∨ (x.logDig ≠ 0 ∧ y.logDig ≠ 0 ∧ x.logDig ≠ y.logDig))

/-- LOG_DIG that the module's own slates carry (R323, R396). -/
def State.ownLogDig (s : State) : BitVec 64 := if s.sys.mode = .witness then s.net.backupDig else getBE 64 s.vote.logDig 0 8

/-- HANDOVER is set (R326). -/
def State.handsOver (s : State) : Bool :=
  let h := s.pair.witHolder
  decide (h ≠ 0) && decide (h ≠ s.net.node) && decide (h ≠ s.net.primary) && s.net.holderSeenPrev

/-- The slate of the next round, as far as the take state of this one determines it (R24, R50, R323). -/
def Slate.next (x : Slate) : Slate :=
  let starts := decide (x.nCur.toNat ≤ x.inTake.toNat + 1)
  let due := starts && decide (x.nPend ≠ 0) && decide (x.pendRound.toNat ≤ x.round.toNat + 1)
  { x with
    round := x.round + 1, takeNum := if starts then x.takeNum + 1 else x.takeNum, inTake := if starts then 0 else x.inTake + 1
    nCur := if due then x.nPend else x.nCur, nPend := if due then 0 else x.nPend, pendRound := if due then 0 else x.pendRound }

/-- The take state of a module that runs takes (R323), as the slate of a round shows it. A take that begins in this round counts as
begun. -/
def State.runningTake (s : State) : Slate :=
  let t := s.take
  let r := s.now.round.toNat
  let next := decide (t.start.round.toNat + t.nCur.toNat ≤ r)
  let changed := next && decide (t.nPend ≠ 0) && decide (t.pendRound.toNat ≤ r)
  let cur := if changed then t.nPend else t.nCur
  let pend := if changed then 0 else t.nPend
  { flags := 0, master := 0, round := s.now.round, takeNum := if next then t.num + 1 else t.num
    nCur := cur.zeroExtend 8, nPend := pend.zeroExtend 8, pendRound := if pend ≠ 0 then t.pendRound else 0
    inTake := if next then 0 else BitVec.ofNat 8 (r - t.start.round.toNat), claim := 0, logDig := 0 }

/-- The take state of the network that a module without takes of its own knows from the last slate that it accepted (R324); none
while no module runs takes (R323), nor where that slate lies more than 3 rounds back (R331). -/
def State.heardTake (s : State) : Option Slate :=
  match s.net.lastSlate with
  | some x =>
    let k := (s.now.round - x.round).toNat
    if x.nCur ≠ 0 ∧ k ≤ 3 then some (Nat.repeat Slate.next k x) else none
  | none => none

/-- The slate that the module derives from its own network time and take state (R323, R324, R326, R335). -/
def State.ownSlate (s : State) : Slate :=
  let take := if s.takesRun ∧ s.take.point ≠ .idle then some s.runningTake else s.heardTake
  let x : Slate := take.getD
    { flags := 0, master := 0, round := 0, takeNum := 0, nCur := 0, nPend := 0, pendRound := 0, inTake := 0, claim := 0, logDig := 0 }
  { x with
    flags := ofBit 0 (take.isSome && decide (x.inTake = 0))
      ||| ofBit 1 (s.net.starter && s.net.master && decide (s.sys.role ≠ .lead))
      ||| ofBit 2 s.handsOver ||| ofBit 3 (decide (x.nPend ≠ 0))
    master := s.net.node, round := s.now.round
    claim := if s.pair.usable then s.pair.claim else 0
    logDig := s.ownLogDig }

/-! ### Insertion -/

/-- A node's own frame goes out on both ports of each ring: into the forward stream on its out port, and into the reverse stream on
its in port (R304, R305). -/
def State.emitFrame (s : State) (rings : List Ring) (at_ : Ring → Bool → NetTime) (frame : Ring → Frame) : State :=
  rings.foldl (fun (s : State) r => (s.emit (.frame r false (at_ r false) (frame r))).emit (.frame r true (at_ r true) (frame r))) s

/-- The network time at which the module sends its frame of a slot into a stream (R327): the slot start of the stream's grid, which
lies the path delay after that of network time, and 320 ns of repeat latency; at the primary time master the slot start. -/
def State.emitTime (s : State) (slot : BitVec 12) (r : Ring) (rev : Bool) : NetTime :=
  let t := s.slotTime slot
  if s.net.master then t else t.plus ((((s.net.ring r).stream rev).path.toNat + 320) / 10)

/-- A frame goes out on the rings, or an idle frame (R312, R315, R317). -/
def State.insert (s : State) (e : BitVec 64) (rings : List Ring) (payload : Option Bytes) : State :=
  let dest := if csDmode e then s.roleNode (csDest e) else csDest e
  let role : BitVec 2 := if csSmode e = 2 then field (csSender e) 0 2 else 0
  let len : BitVec 6 := if payload.isSome then 48 else 0
  let body := payload.getD (List.replicate 48 0)
  let s := s.emitFrame rings (s.emitTime (csSlot e)) fun r => mkFrame (mkHeader (csSlot e) s.net.node (csKind e) len r dest role) body
  s.count 216 16 (if payload.isSome then 0x62 else 0x63)

/-- The guardian blocks an insertion (R332). -/
def State.guardBlock (s : State) : State :=
  State.netFlag { s with net := { s.net with guardBlk := satInc s.net.guardBlk, guardRun := s.net.guardRun + 1 } } 6 0

/-! ### Command telegrams -/

/-- The payload that a lane builds from an output latch (R358). -/
def latchTelegram (k : OutLatch) (n : SesId) (seq : Word) : Option Bytes :=
  (k.payloads.find? fun p => decide (p.ses = n)).map fun p => sealPayload (payloadBytes p seq)

/-- The payload that a lane builds from its output latch in effect (R358). -/
def Lane.telegram (l : Lane) (n : SesId) (seq : Word) : Option Bytes := latchTelegram l.eff n seq

/-- The payload in a lane's transmit buffer; a lane whose deadline has not been named has placed it in time (R359). -/
def Lane.transmits (l : Lane) (n : SesId) (seq : Word) : Option Bytes :=
  match l.txBuf.find? fun e => decide (e.1 = n) with
  | some e => some e.2
  | none => l.telegram n seq

/-- Majority of three bytes, bit by bit. -/
def majByte (x y z : Byte) : Byte := (x &&& y) ||| (x &&& z) ||| (y &&& z)

/-- What the voter sends (R227): the majority of three lanes, what two agree on, or nothing, with a CUT. -/
inductive Telegram where
  | send (payload : Option Bytes) | cut
  deriving DecidableEq

/-- The vote over the payloads of the lanes in voting. -/
def voteTelegram : List (Option Bytes) → Telegram
  | [x, y, z] =>
    match x, y, z with
    | some a, some b, some c => .send (some ((a.zip (b.zip c)).map fun e => majByte e.1 e.2.1 e.2.2))
    | _, _, _ => .send (if x = y ∨ x = z then x else y)
  | [x, y] => if x = y then .send x else .cut
  | _ => .send none

/-- What the lanes give for a slot, `of`, goes through the voter (R227, R228). A lane that has rejoined since the last take start is compared
without a vote (R239). Two lanes that differ, or comparator channels that disagree (R222; DESIGN CHOICE, log 123), suppress the frame and
latch CUT; nothing is outvoted then. -/
def State.sendVoted (s : State) (e : BitVec 64) (rings : List Ring) (of : LaneId → Option Bytes) : State :=
  let split := Config.channelsDiffer s.free
  let s : State := { s with free := s.free + 1 }
  match if split then .cut else voteTelegram ((s.lanesWith Lane.votes).map of) with
  | .cut => s.enterCut (if split then 222 else 227) Config.moduleLane
  | .send p =>
    let bad := (s.lanesWith Lane.active).filter fun l => decide (of l ≠ p)
    let rec_ := LaneId.all.filter fun l => decide ((s.lane l).stat.state = .recovering) && decide (of l ≠ p)
    let s := s.insert e rings p
    let s : State := { s with vote := { s.vote with telMis := satAdd s.vote.telMis (bad.length + rec_.length) } }
    let s := s.raiseIf (decide (bad ≠ [] ∨ rec_ ≠ [])) .lane 7
    (s.excludeLanes bad 0x02 227).excludeLanes rec_ 0x0A 228

/-- The telegram of a session's command slot (R227). -/
def State.sendTelegram (s : State) (e : BitVec 64) (rings : List Ring) (n : SesId) : State :=
  s.sendVoted e rings (fun l => (s.lane l).transmits n (field s.now.round 0 32))

/-- The session's command slot comes round again: an unacknowledged telegram counts (R366), and the next one waits for its ECHO. -/
def Lane.nextSlot (l : Lane) (n : SesId) (sent : Option Word) : Lane :=
  if sesBoundary l.data n then l
  else
    let x := rxOf l.rx n
    let miss := x.sent.isSome && !x.acked
    { l with rx := rxInsert { x with ackMiss := if miss then satInc x.ackMiss else x.ackMiss, sent := sent, acked := false } l.rx }

/-- A session's command slot (R317, R350, R357). -/
def State.sessionSlot (s : State) (e : BitVec 64) (rings : List Ring) : State :=
  let n := csSes e
  let seq : Word := field s.now.round 0 32
  let on := (sesRecOf s.voice.vit.ses n).enabled
  let send := s.sys.mode.runs && on && s.pair.sending && !s.pair.withhold && (s.voice.transmits n seq).isSome
  let t := if send then s.sendTelegram e rings n else s.insert e rings none
  t.onLanes fun _ l =>
    let l := { l with txBuf := l.txBuf.filter fun x => decide (x.1 ≠ n) }
    if on then l.nextSlot n (if send then some seq else none) else l

/-- The Dailies count a command telegram that the voice's slot record shows unacknowledged (R366, R508). -/
def State.countAck (s : State) (n : SesId) : State :=
  let x := rxOf s.voice.rx n
  if (sesRecOf s.voice.vit.ses n).enabled ∧ ¬ sesBoundary s.voice.data n ∧ x.sent.isSome ∧ ¬ x.acked then
    { s with reel := { s.reel with daily := { s.reel.daily with ackMiss := satInc s.reel.daily.ackMiss } } }
  else s

/-- The lead of a firmware roll has resigned (R529): its witness slots carry idle frames. -/
def State.rollResigned (s : State) : Bool := decide (s.stg.phase = .rolling) && s.pair.resigned && decide (s.sys.role = .lead)

/-! ### Pair, witness and tunnel slots -/

/-- The running take is in its last round. -/
def State.lastRound (s : State) : Bool :=
  s.takesRun && decide (s.now.round.toNat + 1 = s.take.start.round.toNat + s.take.nCur.toNat)

/-- The payload of a pair-channel slot (R384): DIGEST in the first, HEALTH in the second slot of the module's role. -/
def State.pairSlot (s : State) (slot : BitVec 12) : Option Bytes :=
  if ¬ s.lastRound then none
  else if slot = 2704 ∨ slot = 2736 then
    s.pair.ownDig.map fun d =>
      sealPayload ([0x01, 0] ++ toBytes 2 (s.net.node.zeroExtend 16 : BitVec 16) ++ toBytes 4 s.take.num
        ++ toBytes 4 (if s.pair.usable then s.pair.claim else 0) ++ toBytes 16 d)
  else if slot = 2705 ∨ slot = 2737 then some s.healthPayload
  else none

/-- The witness broadcast that a lane gives (R390, R392, R393). -/
def State.broadcast (s : State) (l : Lane) : Bytes :=
  let w := s.wit
  let c := l.witClaim
  sealPayload ([0x01, ofBit 0 w.grant] ++ slice l.data.witness 14 2 ++ toBytes 4 c.1
    ++ toBytes 2 (c.2.zeroExtend 16 : BitVec 16) ++ toBytes 5 s.now.round
    ++ toBytes 2 (w.req1.zeroExtend 16 : BitVec 16) ++ [w.res1] ++ toBytes 2 (w.req2.zeroExtend 16 : BitVec 16) ++ [w.res2])

/-- The witness stands by what its lanes have broadcast: its claim and holder, and its role view (R315, R392; DEDUCED, log 113). -/
def State.followWitness (s : State) : State :=
  if s.sys.mode = .witness then
    let c := s.voice.witClaim
    { s with wit := { s.wit with claim := c.1, holder := c.2 }
             pair := { s.pair with witHolder := c.2, witNode := getBE 12 s.voice.data.witness 14 2, witClaim := c.1 } }
  else s

/-- The activation messages that the module repeats in every round until they are answered or superseded (R524, R526). -/
def State.actMessages (s : State) : List TunnelMsg :=
  let g := s.stg
  if s.sys.mode = .witness ∧ g.parts ≠ [] then
    match g.decided with
    | some true => if s.now.round.toNat < g.round.toNat then [.commit g.digest] else []
    | some false => if s.now.round.toNat < g.round.toNat then [.abort g.digest g.cause] else []
    | none => [.prepare g.digest g.round g.kind g.parts]
  else
    match g.phase with
    | .preparing =>
      if g.cause ≠ 0 then [.refuse g.digest g.cause]
      else if s.sys.role = .lead ∧ ¬ g.prepared then [.actReq g.digest g.round g.kind g.parts] else []
    | .ready => [.ready g.digest]
    | _ => []

/-- The channel of a tunnel message (R653). -/
def TunnelMsg.chan : TunnelMsg → Byte
  | .relay _ _ _ => 2
  | .orders _ _ => 3
  | _ => 1

/-- A message waits for the module's tunnel slots. -/
def NetSt.queue (n : NetSt) (m : TunnelMsg) : NetSt := { n with tunnelOut := n.tunnelOut ++ [(TunnelMsg.chan m, Config.tunnelBytes m)] }

/-- The next message number of a channel. -/
def NetSt.msgNum (n : NetSt) (c : Byte) : BitVec 16 := ((n.tunnelNum.find? fun e => decide (e.1 = c)).map (·.2)).getD 0

/-- A tunnel slot carries the next fragment of the first waiting message (R652); the standing activation messages join the queue once
a round. A message of more than 128 fragments is not sent. -/
def State.tunnelSlot (s : State) : State × Option Bytes :=
  let n := s.net
  let n := if n.actRound = s.now.round then n
    else (s.actMessages.foldl NetSt.queue { n with actRound := s.now.round })
  let n := { n with tunnelOut := n.tunnelOut.dropWhile fun e => decide (5120 < e.2.length) }
  match n.tunnelOut with
  | [] => ({ s with net := n }, none)
  | (c, b) :: rest =>
    let k := n.tunnelFrag
    let last := decide (b.length ≤ 40 * (k + 1))
    let p := sealPayload ([c, BitVec.ofNat 8 k ||| ofBit 7 last] ++ toBytes 2 (n.msgNum c) ++ slice b (40 * k) 40)
    let n := if last then
        { n with tunnelOut := rest, tunnelFrag := 0
                 tunnelNum := (n.tunnelNum.filter fun e => decide (e.1 ≠ c)) ++ [(c, n.msgNum c + 1)] }
      else { n with tunnelFrag := k + 1 }
    ({ s with net := n }, some p)

/-! ### FRAME_SEND -/

/-- The module may insert (R332, R336): integrated since an earlier round, or primary time master; not in CUT, and not before READY. -/
def State.inserts (s : State) : Bool :=
  s.awake && decide (s.sys.mode ≠ .cut) && decide (s.sys.mode ≠ .verify) && decide (s.net.sync = .integrated)
    && (s.net.master || decide (1 ≤ s.net.rounds))

/-- A node that is not yet integrated, or not since an earlier round: its guardian admits no frame of a slot (R332, R336). -/
def State.barsSlots (s : State) : Bool :=
  s.awake && !s.net.master && (decide (s.net.sync = .listening ∨ s.net.sync = .backingOff ∨ s.net.sync = .integrating ∨ s.net.sync = .silent)
    || (decide (s.net.sync = .integrated) && decide (s.net.rounds = 0)))

/-- What the module inserts in a slot of its own. The role view of a witness follows its own broadcast (R315; DEDUCED, log 113). -/
def State.fillSlot (s : State) (slot : BitVec 12) (e : BitVec 64) (rings : List Ring) : State :=
  if slot = 0 then
    if ¬ s.net.master then s
    else
      let s' := s.insert e rings (some (slateBytes s.ownSlate))
      if s.handsOver then { s' with net := { s'.net with handover := some (s.now.round + 1) } } else s'
  else if csKind e = 2 then
    let missed := decide ((s.net.lastSlate.map (·.round)) ≠ some s.now.round)
    s.insert e rings (if missed then some (slateBytes s.ownSlate) else none)
  else if csKind e = 4 then (s.countAck (csSes e)).sessionSlot e rings
  else if csKind e = 6 then s.insert e rings (s.pairSlot slot)
  else if csKind e = 7 then
    if s.sys.mode = .witness ∧ ¬ s.rollResigned then (s.sendVoted e rings fun l => some (s.broadcast (s.lane l))).followWitness
    else s.insert e rings (if s.rollResigned then none else some s.healthPayload)
  else if csKind e = 8 then
    let r := s.tunnelSlot
    r.1.insert e rings r.2
  else s.insert e rings none

end Sys2Proof.Machine
end

