-- ==== Sys2Proof/Machine/Network.lean ====
section
/-! DEFINITION. The call sheet rings (08): reception (R314 to R318, R330), slates and integration (R323 to R328, R336, R337), cold start
(R333 to R335), silence (R331), hops and streams (R306 to R310), and the meanings of the commands of the rings. -/

namespace Sys2Proof.Machine

open Sys2Proof

/-! ### Rings and streams -/

/-- 1 for ring A, 2 for ring B, as records and sources name them (R339, R498). -/
def Ring.num : Ring → Nat
  | .a => 1
  | .b => 2

/-- A slate that is accepted on a stream, `ofs` ns after the slot start of the stream's grid, corrects the phase of the grid fully and
its rate by one eighth of the measured error (R329); the first sets the grid (R327). -/
def StreamSt.correct (x : StreamSt) (round : BitVec 40) (ofs : Int) : StreamSt :=
  if ¬ x.grid then { x with grid := true, phase := 0, rate := 0 }
  else { x with phase := x.phase + (round - x.last).toNat * x.rate + 8 * ofs, rate := x.rate + ofs }

/-- A slate has come through a stream within its window: after 3 consecutive ones, the stream is used (R306). The second result says
that it came into use. -/
def StreamSt.slate (x : StreamSt) (round : BitVec 40) (ofs : Int) : StreamSt × Bool :=
  let y := x.correct round ofs
  if x.last = round ∧ x.slates ≠ 0 then (y, false)
  else
    let n : BitVec 2 := if x.last + 1 = round ∧ x.slates ≠ 0 then (if x.slates = 3 then 3 else x.slates + 1) else 1
    ({ y with slates := n, last := round, use := x.use || decide (n = 3) }, decide (n = 3) && !x.use)

/-- The path delay of a stream lets the node use it (R310). -/
def StreamSt.near (x : StreamSt) : Bool := decide (x.path.toNat ≤ pathLimit)

/-- The ring-port stamp of a frame that starts `ofs` ns after its slot start on the grid of its stream (R328, R338): network time is
the grid less the path delay. -/
def State.frameStamp (s : State) (base : NetTime) (ring : Ring) (rev : Bool) (ofs : Int) : NetTime :=
  NetTime.ofTicks ((base.ticks : Int) + ((((s.net.ring ring).stream rev).path.toNat : Int) + ofs) / 10).toNat

/-- A node that does not terminate its streams forwards each frame that it receives, but none of its own, from the port of the one
side to that of the other (R304, R305, R307). What an optical bypass joins does not enter the module (R413). -/
def State.forward (s : State) (ring : Ring) (rev : Bool) (f : Frame) : State :=
  if s.bypassed ∨ s.net.terminating ∨ hSource f.hdr = s.net.node then s else s.emit (.forward ring rev f)

/-! ### Discards and acceptance -/

/-- An invalid symbol, a failed link CRC, or a slate that is discarded likewise (R314, R323). -/
def State.crcError (s : State) (ring : Ring) : State :=
  (s.onRing ring fun x => { x with crcErr := satInc x.crcErr }).count 216 16 0x64

/-- Any other discard of R314. -/
def State.windowReject (s : State) (ring : Ring) : State :=
  (s.onRing ring fun x => { x with winRej := satInc x.winRej }).count 216 16 0x65

/-- A frame is accepted: counted, and the sight of its sender noted (R326, R397, R402). -/
def State.frameOk (s : State) (ring : Ring) (slot : BitVec 12) (src : NodeId) : State :=
  let s := (s.onRing ring fun x => { x with rxOk := satInc x.rxOk }).count 216 16 (if ring = .a then 0x60 else 0x61)
  let part := decide (src = s.pair.partner) && decide (src ≠ 0)
  { s with
    net := { s.net with noFrame := 0, holderSeen := s.net.holderSeen || (decide (src = s.pair.witHolder) && decide (src ≠ 0)) }
    pair := { s.pair with
      nowA := s.pair.nowA || (part && decide (ring = .a)), nowB := s.pair.nowB || (part && decide (ring = .b))
      nowEarly := s.pair.nowEarly || (part && decide (slot.toNat ≤ 2775)) } }

/-! ### Silence and integration -/

/-- The conditions of R331. -/
def NetSt.silentDue (n : NetSt) : Bool :=
  decide (n.sync = .integrating ∨ n.sync = .integrated) && (decide (n.drift = 3) || decide (3 ≤ n.missRun) || decide (3 ≤ n.guardRun))

/-- The node falls silent (R331, R469). -/
def State.fallSilent (s : State) : State :=
  if s.net.silentDue then
    let s := State.netFlag { s with net := { s.net.noGrids with
      sync := .silent, runSlates := 0, silentCnt := satInc s.net.silentCnt, master := false, starter := false, handover := none
      drift := 0, missRun := 0, guardRun := 0 } } 5 0
    s.leaveIntegrating
  else s

/-- READY to INTEGRATING (R323, R469, R611): integrated, and the hold-up good. -/
def State.tryIntegrate (s : State) : State :=
  if s.sys.mode = .ready ∧ s.net.sync = .integrated ∧ s.pwr.holdupOk ∧ ¬ s.wrap.running then
    State.setMode { s with pair := s.pair.fresh } .integrating
  else s

/-- The highest ROUND that the Reel holds; none in an empty Reel (R337). -/
def reelHigh (r : ReelSt) : Option Nat :=
  ((r.mram.map fun e => e.2.stamp) ++ r.buffer.map (·.stamp)).foldl (fun (a : Option Nat) x =>
    let n := (field x 20 40).toNat
    some (match a with | some m => max m n | none => n)) none

/-- The third consecutive slate: the node is integrated (R336, R337). -/
def State.integrated (s : State) : State :=
  let high := reelHigh s.reel
  let s := State.loadGuard { s with net := { s.net with sync := .integrated, rounds := 0, guardFrom := none } }
  let s := match high with
    | some h =>
      if s.now.round.toNat ≤ h then s.record 5 0x06 (toBytes 5 (BitVec.ofNat 40 h) ++ toBytes 5 s.now.round) else s
    | none => s
  s.tryIntegrate

/-- The slate's LOG_DIG forbids integration (R323, R396). -/
def State.digestBars (s : State) (x : Slate) : Bool :=
  decide (x.logDig ≠ 0) && decide (x.logDig ≠ s.ownLogDig) && decide (s.sys.mode = .ready ∨ s.sys.mode = .integrating)

/-- A module that follows takes the pending change of the take length from the lead's slate (R25, R50), and loses step where the slate
shows another take, or another round of it, than its own (R51). A slate that marks a take start is taken with TAKE_START. -/
def State.followLength (s : State) (x : Slate) : State :=
  if s.takesRun ∧ s.sys.role ≠ .lead ∧ x.nCur ≠ 0 ∧ ¬ bit x.flags 0 then
    let same := decide (x.takeNum = s.take.num ∧ x.round = s.take.start.round + x.inTake.zeroExtend 40)
    State.followPending { s with take := { s.take with follows := s.take.follows && same } } x
  else s

/-- Another node's slate reaches the primary time master (R401), or a master takes over (R307). -/
def State.newMaster (s : State) (kind : BitVec 4) (x : Slate) : State :=
  if s.net.master then State.netFlag { s with net := s.net.yield x.master } 9 0
  else if kind = 1 then
    let was := s.net.primary
    let s := { s with net := { s.net with primary := x.master } }
    s.netFlagIf (decide (was ≠ 0 ∧ was ≠ x.master)) 9 0
  else s

/-- The first accepted slate of a round: the reference of the node's time (R325, R327, R328), of integration (R336) and of a claim
(R395). `grid` says that it was measured against a grid, with offset `ofs` in ns. -/
def State.firstSlate (s : State) (ring : Ring) (rev : Bool) (kind : BitVec 4) (slot : BitVec 12) (grid : Bool) (ofs : Int) (x : Slate) :
    State :=
  let n := s.net
  let next := decide ((n.lastSlate.map fun y => y.round + 1) = some x.round)
  let begun := decide (n.sync = .integrating ∨ n.sync = .integrated)
  let far := decide (200 < ofs.natAbs)
  let s := s.reach (s.frameStamp { round := x.round, slot := slot, tick := 0 } ring rev ofs)
  let s := { s with net := { s.net with
    sync := if begun then n.sync else .integrating
    watching := false, lastSlate := some x, slateFrom := (ring, slot), missRun := 0
    runSlates := if begun ∧ next ∧ grid then n.runSlates + 1 else 1
    slateSrc := if slot = 0 then 0 else if slot = 1 then 1 else 2
    drift := if ¬ grid ∨ ¬ far then 0 else if ¬ next then 1 else if n.drift = 3 then 3 else n.drift + 1
    backupDig := if slot.toNat ≤ 1 then x.logDig else n.backupDig } }
  let s : State := s.newMaster kind x
  let s : State := if s.digestBars x then
      let s := s.netFlag 10 0
      State.leaveIntegrating { s with net := { s.net with sync := .integrating, runSlates := 0 } }
    else if s.net.sync = .integrating ∧ 3 ≤ s.net.runSlates then s.integrated
    else s
  let s : State := s.followLength x
  if s.claims ∧ x.claim ≠ 0 then s.seeClaim x.claim else s

/-- Another accepted slate of a round (R325): the first is kept. One of the same slot from the other ring that differs also counts as
a slot discarded under R318; that the reference then stands is DEDUCED (log 72). -/
def State.otherSlate (s : State) (ring : Ring) (slot : BitVec 12) (y x : Slate) : State :=
  let s := if s.net.slateFrom.2 = slot ∧ s.net.slateFrom.1 ≠ ring ∧ x ≠ y then
      State.netFlag { s with net := { s.net with ringDiff := satInc s.net.ringDiff } } 7 (Ring.num ring)
    else s
  if slatesDiffer x y then State.netFlag { s with net := { s.net with slateDiff := satInc s.net.slateDiff } } 3 (Ring.num ring)
  else s

/-- HANDOVER of an accepted slate names this node, whose role view holds it for the claim holder (R326). -/
def State.handedOver (s : State) (x : Slate) : State :=
  if bit x.flags 2 ∧ ¬ s.net.master ∧ s.net.handover = none ∧ s.pair.witHolder = s.net.node ∧ s.pair.witHolder ≠ 0 then
    { s with net := { s.net with handover := some (x.round + 1) } }
  else s

/-- A slate is accepted. An integrated node takes nothing from it on a stream that it does not use (R306, R310). A primary time master
keeps its own time, unless it is in CUT or another node sends the primary slate. -/
def State.slateIn (s : State) (ring : Ring) (rev : Bool) (kind : BitVec 4) (slot : BitVec 12) (grid : Bool) (ofs : Int) (x : Slate) :
    State :=
  let used := decide (s.net.sync ≠ .integrated) || (s.net.ring ring).inUse rev
  let here := (s.slotTime slot).round
  let r := ((s.net.ring ring).stream rev).slate x.round ofs
  let s := (s.onRing ring fun y => y.onStream rev fun _ => r.1).netFlagIf r.2 2 (Ring.num ring)
  if ¬ used ∨ (s.net.master ∧ kind ≠ 1 ∧ s.sys.mode ≠ .cut) then s
  else
    let begun := decide (s.net.sync = .integrating ∨ s.net.sync = .integrated)
    let second := s.net.lastSlate.filter fun y => decide (y.round = here) && begun
    let s : State := match second with
      | some y => s.otherSlate ring slot y x
      | none => s.firstSlate ring rev kind slot grid ofs x
    let s : State := s.handedOver x
    { s with net := { s.net with ofs := if grid then BitVec.ofInt 16 ofs else 0, ofsValid := grid } }

/-! ### Cold start -/

/-- Contention (R334): the node backs off. -/
def State.contend (s : State) (rival : NodeId) (ring : Ring) : State :=
  State.netFlag { s with net := { s.net.noGrids with
    contended := satInc s.net.contended, rival := rival, sync := .backingOff, watching := false } } 0 (Ring.num ring)

/-- A COLD_SLATE is accepted (R316, R333, R334, R336). -/
def State.coldIn (s : State) (ring : Ring) (rev : Bool) (src : NodeId) (x : Slate) : State :=
  if s.net.watching then s.contend src ring
  else if s.net.sync = .listening ∨ s.net.sync = .backingOff ∨ s.net.sync = .silent then s.slateIn ring rev 3 0 false 0 x
  else s

/-- The node sends a COLD_SLATE on both rings; that instant is slot 0 of its grid (R333). -/
def State.sendCold (s : State) (round : BitVec 40) : State :=
  let s := s.reach (NetTime.atRound round)
  let p := slateBytes { s.ownSlate with flags := 0, claim := 0 }
  let s := { s with net := { s.net with watching := true, sync := .listening } }
  let s := s.emitFrame [.a, .b] (fun _ _ => NetTime.atRound round) fun r => mkFrame (mkHeader 0 s.net.node 3 48 r 0xFFF 0) p
  s.count 216 16 0x62

/-! ### Frames that act -/

/-- A tunnel fragment (R652, R653): a message with a lost fragment is discarded whole. -/
def State.tunnelIn (s : State) (node : NodeId) (p : Bytes) : State :=
  let c := p.getD 0 0
  let i := field (p.getD 1 0) 0 7
  let m : BitVec 16 := getBE 16 p 2 2
  let data := slice p 4 40
  if ¬ checkedPayload p ∨ c = 0 ∨ 4 < c.toNat then s
  else
    let old := s.net.reasm.find? fun e => decide (e.chan = c ∧ e.node = node)
    let rest := s.net.reasm.filter fun e => decide (¬ (e.chan = c ∧ e.node = node))
    let so : Option Bytes := if i = 0 then some data else
      match old with
      | some e => if e.msg = m ∧ e.next = i then some (e.data ++ data) else none
      | none => none
    match so with
    | none => { s with net := { s.net with reasm := rest } }
    | some d =>
      if bit (p.getD 1 0) 7 then { s with net := { s.net with reasm := rest, tunnelIn := s.net.tunnelIn ++ [(c, node, d)] } }
      else { s with net := { s.net with reasm := rest ++ [{ chan := c, node := node, msg := m, next := i + 1, data := d }] } }

/-- The witness takes the first health report of a group of slots (R391). -/
def State.witnessReport (s : State) (slot : BitVec 12) (p : Bytes) : State :=
  let g : BitVec 2 := if slot.toNat ≤ 2779 then 1 else 2
  if s.wit.reports.any fun e => decide (e.1 = g) then s
  else { s with wit := { s.wit with reports := s.wit.reports ++ [(g, p)] } }

/-- What a frame with LEN = 48 does, by its kind (R313). -/
def State.actFrame (s : State) (x : SlotRx) : State :=
  let f := x.frame
  let p := f.payload
  let src := hSource f.hdr
  let from_ : PairSrc := if x.ring = .a then .ringA else .ringB
  let ok := checkedPayload p
  if hKind f.hdr = 5 then { s with net := { s.net with delivered := s.net.delivered ++ [x] } }
  else if hKind f.hdr = 6 then
    if ok ∧ p.getD 0 0 = 1 then s.ringPartner src |>.partnerDigest from_ src (getBE 32 p 4 4) (getBE 128 p 12 16)
    else if ok ∧ p.getD 0 0 = 2 then (s.ringPartner src).partnerHealth p
    else s
  else if hKind f.hdr = 7 then
    if x.slot.toNat ≤ 2775 then s.acceptBroadcast p
    else if ¬ (ok ∧ p.getD 0 0 = 2) then s
    else if s.sys.mode = .witness then s.witnessReport x.slot p
    else if src = s.pair.partner then s.partnerHealth p
    else s
  else if hKind f.hdr = 8 then s.tunnelIn src p
  else s

/-- What the pair state holds of received frames, as it was before one. -/
def PairSt.unhear (p q : PairSt) : PairSt :=
  { p with
    partDig := q.partDig, partReport := q.partReport, partSeen := q.partSeen, partMode := q.partMode, healthPart := q.healthPart
    witHolder := q.witHolder, witNode := q.witNode, witClaim := q.witClaim, witLast := q.witLast, witRounds := q.witRounds }

/-- The last entry of a list that `p` holds of is taken out. -/
def dropLastOf {α : Type} (p : α → Bool) (l : List α) : List α := (l.reverse.eraseP p).reverse

/-- A frame that has been taken is discarded after all (R318): it is not delivered, its DIGEST, report or broadcast is forgotten, and a
tunnel message with it is lost. A role or claim that the module has drawn from it stands (DEDUCED, log 72). -/
def State.discard (s : State) (e : SlotRx) : State :=
  let p := e.frame.payload
  let src := hSource e.frame.hdr
  let c := p.getD 0 0
  let of := fun (k : BitVec 4) => decide (hKind e.frame.hdr = k)
  { s with
    net := { s.net with
      delivered := s.net.delivered.filter fun d => decide (¬ (d.slot = e.slot ∧ d.round = e.round))
      reasm := if of 8 then s.net.reasm.filter (fun r => decide (¬ (r.chan = c ∧ r.node = src))) else s.net.reasm
      tunnelIn := if of 8 && bit (p.getD 1 0) 7 then dropLastOf (fun m => decide (m.1 = c ∧ m.2.1 = src)) s.net.tunnelIn else s.net.tunnelIn }
    pair := match e.was with | some q => s.pair.unhear q | none => s.pair
    wit := { s.wit with reports := if of 7 then s.wit.reports.filter (fun r => decide (r.2 ≠ p)) else s.wit.reports } }

/-- An accepted frame other than a slate: each is taken from the first ring that delivers it; a different payload from the other ring
discards both (R318), once for a slot. -/
def State.takeFrame (s : State) (x : SlotRx) : State :=
  let recent := s.net.slotRx.filter fun e =>
    decide (s.now.ticks ≤ ({ round := e.round, slot := e.slot, tick := 0 } : NetTime).ticks + 512 * 250)
  match recent.find? fun e => decide (e.slot = x.slot ∧ e.round = x.round) with
  | some e =>
    if e.ring ≠ x.ring ∧ e.frame.payload ≠ x.frame.payload ∧ ¬ e.gone then
      let rest := recent.map fun (d : SlotRx) => if d.slot = e.slot ∧ d.round = e.round then { d with gone := true, was := none } else d
      let s := s.discard e
      State.netFlag { s with net := { s.net with ringDiff := satInc s.net.ringDiff, slotRx := rest } } 7 (Ring.num x.ring)
    else { s with net := { s.net with slotRx := recent } }
  | none =>
    let acts := decide (hKind x.frame.hdr = 6 ∨ hKind x.frame.hdr = 7)
    let s := { s with net := { s.net with slotRx := recent ++ [{ x with was := if acts then some s.pair else none }] } }
    if hLen x.frame.hdr = 48 then s.actFrame x else s

/-- A frame whose link checks and header hold (R314 to R317). The primary time master takes the frames of the streams that it ends
(R304; DEDUCED, log 72). A node without grid on the stream that carries it takes the first slate there without window and SLOT
(R316); on a stream whose path delay is too long it takes nothing (R310). -/
def State.checkedFrame (s : State) (ring : Ring) (rev : Bool) (slot : BitVec 12) (ofs : Int) (f : Frame) : State :=
  let h := f.hdr
  let k := hKind h
  let n := s.net
  let src := hSource h
  let stream := (n.ring ring).stream rev
  let bare := !n.watching && !n.master && !stream.grid
  let starter := decide (k = 1 ∧ hSlot h = 0) && bit (f.payload.getD 1 0) 1 && decide (hLen h = 48)
  let fits : Bool := match callEntry s.voice.data (hSlot h) with
    | some e => s.entryFits e h || starter
    | none => starter
  if k = 3 then
    if hLen h ≠ 48 ∨ hDest h ≠ 0xFFF then s.windowReject ring
    else if ¬ slateOk f.payload then s.crcError ring
    else if (slateOf f.payload).master ≠ src then s.windowReject ring
    else (s.frameOk ring 0 src).coldIn ring rev src (slateOf f.payload)
  else if ¬ stream.near then s
  else if bare then
    if ¬ (k = 1 ∨ k = 2) ∨ hLen h ≠ 48 then s
    else if ¬ fits then s.windowReject ring
    else if ¬ slateOk f.payload then s.crcError ring
    else (s.frameOk ring (hSlot h) src).slateIn ring rev k (hSlot h) false 0 (slateOf f.payload)
  else if 250 < ofs.natAbs ∨ hSlot h ≠ slot ∨ ¬ fits then s.windowReject ring
  else if k.toNat ≤ 5 ∧ hLen h ≠ 0 ∧ hLen h ≠ 48 then s
  else if (k = 1 ∨ k = 2) ∧ hLen h = 48 then
    if ¬ slateOk f.payload then s.crcError ring
    else (s.frameOk ring slot src).slateIn ring rev k slot true ofs (slateOf f.payload)
  else if ¬ (n.master ∨ stream.use) then s
  else
    let t := s.slotTime slot
    let stamp := s.frameStamp t ring rev ofs
    let s := s.reachTime stamp
    (s.frameOk ring slot src).takeFrame { ring := ring, slot := slot, round := t.round, stamp := stamp, frame := f, was := none, gone := false }

/-- A frame of the node's own comes back. It gives nothing, but that the slates of the primary time master show it that its stream has
come around the ring (R304, R306). -/
def State.ownReturns (s : State) (ring : Ring) (rev : Bool) (slot : BitVec 12) (ofs : Int) (f : Frame) : State :=
  if s.net.master ∧ hKind f.hdr = 1 ∧ hLen f.hdr = 48 ∧ hSlot f.hdr = slot ∧ ofs.natAbs ≤ 250 ∧ headerOk f.hdr ∧ slateOk f.payload then
    let r := ((s.net.ring ring).stream rev).slate (slateOf f.payload).round ofs
    (s.onRing ring fun y => y.onStream rev fun _ => r.1).netFlagIf r.2 2 (Ring.num ring)
  else s

/-- FRAME_RECEIVE (R305, R314): a frame on a ring port, of the stream `rev`, in slot `slot`, `ofs` ns from its start. It is forwarded,
and a node that has begun to listen takes it. -/
def execFrameReceive (ring : Ring) (rev : Bool) (slot : BitVec 12) (ofs : Int) (frame : Frame) (s : State) : Answer :=
  let s := s.fallSilent.forward ring rev frame
  if s.net.sync = .notStarted ∨ ¬ s.awake then .next s
  else if ¬ linkOk frame then
    let s := s.crcError ring
    .next (if s.net.watching then s.contend 0 ring else s)
  else if hSource frame.hdr = s.net.node then .next (s.ownReturns ring rev slot ofs frame)
  else if ¬ headerOk frame.hdr then .next (s.windowReject ring)
  else .next (s.checkedFrame ring rev slot ofs frame)

/-- FRAME_SEND (R320, R324, R327, R332, R357): the module inserts its own frame of a slot; the guardian blocks an insertion in any slot
that is not its own. -/
def execFrameSend (slot : BitVec 12) (s : State) : Answer :=
  let s := s.fallSilent
  if s.barsSlots then .next s.guardBlock
  else if ¬ s.inserts then .next s
  else
    let s := s.reachSlot slot
    match callEntry s.voice.data slot with
    | none => .next s.guardBlock
    | some e =>
      match s.ownRings e with
      | [] => .next s.guardBlock
      | rings => .next (s.fillSlot slot e rings)

/-- A slot lies in the take that follows the running one, whose telegrams carry the latch that this take has finished (R35, R358). -/
def State.inNextTake (s : State) (t : NetTime) : Bool :=
  decide (s.take.point = .deadline) && decide ((s.take.start.plus (s.take.nCur.toNat * roundTicks)).ticks ≤ t.ticks)

/-- PAYLOAD_DEADLINE (R359): 8 slots before a command slot. -/
def execPayloadDeadline (ses : SesId) (late : LaneMask) (s : State) : Answer :=
  let slot := sesCmdSlot (sesEntry s.voice.data ses)
  let t := s.slotTime slot
  let seq : Word := field t.round 0 32
  let next := s.inNextTake t
  let sends := if next then bit s.pair.outWord 5 else s.pair.sending
  if ¬ (s.sys.mode.runs ∧ sends ∧ (sesRecOf s.voice.vit.ses ses).enabled) then .next s
  else
    let s := if s.now.ticks + 2000 < t.ticks then s.reach (NetTime.ofTicks (t.ticks - 2000)) else s
    let s := s.onLanes fun id l =>
      if l.evaluates ∧ ¬ id.inMask late then
        match latchTelegram (if next then l.vit.latch else l.eff) ses seq with
        | some p => { l with txBuf := (l.txBuf.filter fun e => decide (e.1 ≠ ses)) ++ [(ses, p)]
                             accTx := (p.take 44).foldl (crcByte castagnoli) crcInit }
        | none => l
      else l
    let missing := LaneId.all.filter fun l => l.inMask late && (s.lane l).evaluates
    let bad := missing.filter fun l => (s.lane l).active
    let rec_ := missing.filter fun l => !(s.lane l).active
    let s := s.raiseIf (decide (missing ≠ [])) .ses 8
    let s := if bad = [] then s
      else if s.activeCount = 2 then s.enterCut 359 Config.moduleLane
      else s.excludeLanes bad 0x02 359
    .next (s.excludeLanes rec_ 0x0A 359)

/-- The symbols 2 to 7 of a timing set (R308). -/
def timingBytes (path : BitVec 24) (hold : BitVec 16) (flags : Byte) : Bytes := toBytes 3 path ++ toBytes 2 hold ++ [flags]

/-- The timing set that a port sends (R308, R309): PATH is 0 at the primary time master, and otherwise the path delay of the stream that
the port passes on, with the repeat latency; FLAGS says that the port carries a stream from the time master. HOLD is a time that the
rules do not fix, a free value (log 114). -/
def State.timingSet (s : State) (ring : Ring) (outPort : Bool) : Output :=
  let x := (s.net.ring ring).stream (!outPort)
  let path : BitVec 24 := if s.net.master then 0 else satNat 24 (x.path.toNat + 320)
  let flags : Byte := ofBit 0 (s.net.master || (x.use && !s.net.terminating))
  let hold : BitVec 16 := Config.timingHold s.free
  .timing ring outPort path hold flags (crc8 (timingBytes path hold flags))

/-- What a port takes from the neighbour's timing set (R309, R310): half its round trip less HOLD for the hop, and the path delay of the
stream that comes in; FLAGS bit 0 = 0 says that no stream of the time master does (R345). -/
def RingSt.timed (x : RingSt) (outPort : Bool) (path : BitVec 24) (hold : BitVec 16) (flags : Byte) (rtt : Nat) : RingSt :=
  let hop := (rtt - hold.toNat) / 2
  let total := path.toNat + hop
  let x := if outPort then { x with outSignal := true, hopOut := satNat 16 hop } else { x with inSignal := true, hopIn := satNat 16 hop }
  x.onStream outPort fun y =>
    if ¬ bit flags 0 then y.lost
    else if pathLimit < total then { y.lost with path := satNat 24 total }
    else { y with path := satNat 24 total }

/-- TIMING_SET (R308 to R310): a port receives a timing set, and sends its own in the guard interval; `rtt` is the round trip of its own,
in ns. -/
def execTimingSet (ring : Ring) (outPort : Bool) (path : BitVec 24) (hold : BitVec 16) (flags : Byte) (crc : Byte) (rtt : Nat)
    (s : State) : Answer :=
  if ¬ s.awake then .next s
  else
    let s := State.emit { s with free := s.free + 1 } (s.timingSet ring outPort)
    if crc ≠ crc8 (timingBytes path hold flags) then .next s
    else
      .next ((s.onRing ring fun x => x.timed outPort path hold flags rtt).netFlagIf
        (bit flags 0 && decide (pathLimit < path.toNat + (rtt - hold.toNat) / 2)) 8 (Ring.num ring))

/-- HOP_LOST (R306): a port loses signal, and with it the stream that it receives. -/
def execHopLost (ring : Ring) (outPort : Bool) (s : State) : Answer :=
  if ¬ s.awake then .next s
  else
    .next ((s.onRing ring fun x =>
      (if outPort then { x with outSignal := false } else { x with inSignal := false }).onStream outPort StreamSt.lost).netFlag 1
        (Ring.num ring))

/-- FALL_SILENT (R331). -/
def execFallSilent (s : State) : Answer := .next s.fallSilent

/-- SLATE_MISSED (R331, R342): a round ends without an accepted slate; a primary time master misses none. -/
def execSlateMissed (s : State) : Answer :=
  let n := s.net
  if ¬ (n.sync = .integrating ∨ n.sync = .integrated) ∨ n.master ∨ (n.lastSlate.map (·.round)) = some s.now.round then .next s
  else
    let s := State.netFlag { s with net := { n with
      slateMiss := satInc n.slateMiss, missRun := n.missRun + 1, slateSrc := 3, drift := 0
      runSlates := 0 } } 4 0
    .next (s.reach (NetTime.atRound (s.now.round + 1)))

/-- TERMINATION_END (R307, R401): slot 400 of the round of the handover. -/
def execTerminationEnd (s : State) : Answer :=
  if s.net.terminating ∧ ¬ s.net.master then .next { s.reachSlot 400 with net := { (s.reachSlot 400).net with terminating := false } }
  else .next s

/-- COLD_LISTEN_END (R333, R337). -/
def execColdListenEnd (s : State) : Answer :=
  if s.net.sync = .listening ∧ ¬ s.net.watching ∧ s.awake then
    .next (s.sendCold (BitVec.ofNat 40 ((reelHigh s.reel).getD 0 + 1048576)))
  else .next s

/-- BACKOFF_END (R334): the node sends again, in the round of its own count that follows its backoff. -/
def execBackoffEnd (s : State) : Answer :=
  if s.net.sync = .backingOff ∧ s.awake then
    .next (s.sendCold (s.now.round + BitVec.ofNat 40 (1 + (s.net.node.toNat + 7) / 8)))
  else .next s

/-- STARTER (R335): no contention in the round after the COLD_SLATE; the node is primary time master from its next slot 0, and counts as
integrated on its own grid (DEDUCED, log 29). -/
def execStarter (s : State) : Answer :=
  if s.net.watching ∧ s.awake then
    let s := s.reach (NetTime.atRound (s.now.round + 1))
    let s := { s with net := { s.net.takeOver with watching := false, starter := true, sync := .integrated, rounds := 0 } }
    .next s.loadGuard.tryIntegrate
  else .next s

end Sys2Proof.Machine
end

