-- ==== Sys2Proof/Machine/Wrap.lean ====
section
/-! DEFINITION. The wrap test (16): its slices (R567, R568, R571, R572), the verdicts, marks and repair of R573 to R576, what a module wrap
leaves (R577, R565), and the meaning of the end of a slice. -/

namespace Sys2Proof.Machine

open Sys2Proof

/-- The region that a lane slice is tied to (R567). -/
def sliceRegion (n : Nat) : Option Nat := if n < 16 then some n else if 22 ≤ n ∧ n < 38 then some (n - 22) else none

/-- The slice has a transparent part (R567, R568). -/
def transparentSlice (n : Nat) : Bool := decide (n = 62 ∨ n = 63 ∨ 71 ≤ n)

/-- The slice passes (R571, R572): COMPLETE, the reference signature, and no uncorrectable codeword. -/
def slicePasses (n : Nat) (r : SliceRun) : Bool :=
  decide (r.patterns = Config.terminalCount n) && decide (r.sig = Config.refSignature n) && !(transparentSlice n && r.uncorr)

/-- The results of a slice in one lane. -/
def Lane.sliceResult (l : Lane) (n : Nat) (r : SliceRun) : Lane :=
  { l with wrap := { l.wrap with
      runs := l.wrap.runs ++ [(n, r)], failing := if slicePasses n r then l.wrap.failing else l.wrap.failing ++ [n] } }

/-- What a transparent slice reports (R571, R579, R584): corrections, and a SCRUB record of an uncorrectable codeword; `where_` is the lane
number (log 38). -/
def State.sliceReports (s : State) (n : Nat) (where_ : Byte) (r : SliceRun) : State :=
  if ¬ transparentSlice n then s
  else
    let s : State := { s with wrap := { s.wrap with data := satAdd s.wrap.data r.dataCorr, chk := satAdd s.wrap.chk r.chkCorr } }
    let s := s.raiseIf (decide (r.dataCorr + r.chkCorr ≠ 0)) .wrap 6
    if r.uncorr then
      let c := Config.nvCodeword s.free
      State.record { s with free := s.free + 1 } 0 0x30 ([where_, field c 16 8, 3] ++ toBytes 2 (field c 0 16))
    else s

/-- A slice of one lane ends. -/
def State.laneSlice (s : State) (n : Nat) (l : LaneId) (r : SliceRun) : State :=
  (s.onLane l fun x => x.sliceResult n r).sliceReports n (BitVec.ofNat 8 l.num) r

/-- A slice of the module ends. -/
def State.moduleSlice (s : State) (n : Nat) (r : SliceRun) : State :=
  let ok := slicePasses n r
  let w := s.wrap
  let s : State := { s with wrap := { w with runs := w.runs ++ [(n, r)], failing := if ok then w.failing else w.failing ++ [n] } }
  (s.raiseIf (!ok) .wrap 2).sliceReports n Config.moduleLane r

/-- The verdict of a lane (R573): 1 PASS, 2 RELOCATE, 3 FAIL. -/
def Lane.wrapVerdict (l : Lane) : BitVec 2 :=
  match l.wrap.failing with
  | [] => 1
  | f :: _ =>
    match sliceRegion f with
    | some r => if (l.wrap.failing.all fun n => decide (sliceRegion n = some r)) ∧ setBit l.store.unusable r false = 0 then 2 else 3
    | none => 3

/-- The unusable marks and the consecutive passes after a complete test (R573, R574). -/
def Lane.wrapMarks (l : Lane) : Lane :=
  let g := l.store
  let failed := fun (r : Nat) => l.wrap.failing.any fun n => decide (sliceRegion n = some r)
  let bad := decide (l.wrapVerdict = 2)
  match (List.range 16).find? fun r => bit g.unusable r with
  | some r =>
    let p : BitVec 2 := if failed r then 0 else g.passes + 1
    { l with store := { g with passes := p, unusable := if p = 3 then setBit g.unusable r false else g.unusable } }
  | none =>
    match (l.wrap.failing.head?).bind sliceRegion with
    | some r => if bad then { l with store := { g with unusable := setBit g.unusable r true, passes := 0 } } else l
    | none => l

/-- The end of a complete test in one lane (R573, R574, R579, R586). -/
def State.laneVerdict (s : State) (l : LaneId) : State :=
  let x := s.lane l
  let v := x.wrapVerdict
  let y := x.wrapMarks
  let f := x.wrap.failing
  let w := { y.wrap with
    verdict := v, failed := BitVec.ofNat 8 (f.foldl (fun m n => if n < m then n else m) 255), failCnt := BitVec.ofNat 8 f.length }
  let s := s.setLane l { y with wrap := w }
  let s := (s.raiseIf (decide (v = 1)) .wrap 1).raiseIf (decide (v ≠ 1)) .wrap 2
  let s := s.raiseIf (decide (y.store.unusable &&& ~~~x.store.unusable ≠ 0)) .wrap 4
  s.record 5 0x2B [BitVec.ofNat 8 l.num, if v = 1 then 1 else 2]

/-- The test fails and the spare tiles do not suffice (R242): FAIL, or RELOCATE without a relocation entry of the active area (R269). -/
def Lane.wrapFails (l : Lane) (id : LaneId) : Bool := decide (l.wrap.verdict = 3) || (decide (l.wrap.verdict = 2) && l.relocMissing id)

/-- A lane that fails its wrap test is UNUSABLE, and its domain powers off (R242, R547). -/
def State.failLane (s : State) (l : LaneId) : State :=
  if (s.lane l).stat.state = .unusable then s else ((s.setLaneState l .unusable).raise .wrap 5).domainOff l

/-- The end of a lane wrap (R242, R411, R240): the lane goes on to recovery, stays SHUTDOWN while it is held, or is UNUSABLE. -/
def State.laneWrapEnd (s : State) (l : LaneId) : State :=
  let s := State.laneVerdict { s with wrap := { s.wrap with running := false, why := .none }, pair := { s.pair with wrapLane := 0 } } l
  let x := s.lane l
  if x.wrapFails l then s.failLane l
  else if x.stat.held then s.domainOff l
  else s.setLaneState l .excluded

/-- The end of a module wrap (R242, R565, R575, R577). -/
def State.moduleWrapEnd (s : State) : State :=
  let w := s.wrap
  let s : State := { s with wrap := { w with
    running := false, why := .none, module := 1, wrapCycle := some w.cycle
    moduleOk := !(w.failing.any fun n => decide (n ≤ 68)), nvFail := w.failing.any fun n => decide (69 ≤ n) } }
  let s := LaneId.all.foldl (fun (s : State) l =>
    let s := s.laneVerdict l
    if (s.lane l).wrapFails l then s.failLane l
    else if (s.lane l).stat.state = .unusable then s.setLaneState l .shutdown
    else s) s
  match w.why with
  | .standIn => s.enterStandIn
  | .activation => s.enterBoot .activation
  | _ => s

/-- WRAP_SLICE_END (R569 to R577): the 20 ms budget of a slice ends. A lane slice of a module wrap runs in all three lanes; a lane wrap and
a module slice have one result, `a`. -/
def execWrapSliceEnd (a b c : SliceRun) (s : State) : Answer :=
  if ¬ s.wrap.running then .next s
  else
    let w := s.wrap
    let n := w.slice
    let s : State := { s with wrap := { w with slice := n + 1 } }
    if w.why = .lane then
      let s := s.laneSlice n w.lane a
      .next (if n < 63 then s else s.laneWrapEnd w.lane)
    else
      let s := if n < 64 then ((s.laneSlice n .a a).laneSlice n .b b).laneSlice n .c c else s.moduleSlice n a
      .next (if n < 199 then s else s.moduleWrapEnd)

end Sys2Proof.Machine
end

