-- ==== Sys2Proof/Machine/Power.lean ====
section
/-! DEFINITION. Supply, lines and physical security (18): feeds, power fail and hold-up (R608 to R612), lane rails and temperatures (R614,
R615), cabinet lines (R618 to R620), tampering and enrolment (R627, R628), and the meanings of their commands. -/

namespace Sys2Proof.Machine

open Sys2Proof

/-! ### Supply -/

/-- FEED_LOST (R608): while the module is supplied, FEED_A_LOST or FEED_B_LOST and a POWER record. -/
def execFeedLost (feedB : Bool) (s : State) : Answer :=
  let s := { s with pwr := if feedB then { s.pwr with feedBOk := false } else { s.pwr with feedAOk := false } }
  .next (if s.supplied then (s.powerRecord (if feedB then 3 else 1)).raise .pwr (if feedB then 1 else 0) else s)

/-- FEED_RESTORED (R608, R613). -/
def execFeedRestored (feedB : Bool) (s : State) : Answer :=
  let s := { s with pwr := if feedB then { s.pwr with feedBOk := true } else { s.pwr with feedAOk := true } }
  .next (if s.supplied then s.powerRecord (if feedB then 4 else 2) else s)

/-- POWER_FAIL (R578, R609, R610): outputs and insertion stop, the POWER record enters the Reel and the buffer is flushed, the lanes write
their restart stores, and the module is OFF. A checkpoint or copied block is one command here, so none is in progress. -/
def execPowerFail (s : State) : Answer :=
  if s.sys.mode = .off then .next s
  else
    let running := s.takesRun
    let s := if s.supplied then
        let s := s.wrapAbandon.powerRecord 0x05
        if running then s.writeStores else s
      else s
    let s : State := { s with pwr := { s.pwr with fails := satInc s.pwr.fails, lastFail := true } }
    .next (s.lose .off)

/-- SUPPLY_DIP (R609). -/
def execSupplyDip (s : State) : Answer :=
  if s.supplied then .next (State.raise { s with pwr := { s.pwr with dips := satInc s.pwr.dips } } .pwr 2) else .next s

/-- The hold-up is charged and its measured capacity gives at least 60 ms (R611). -/
def PwrSt.holdupGood (p : PwrSt) : Bool := p.charged && p.measured && decide (600 ≤ p.time.toNat)

/-- HOLDUP_OK follows charge and measurement; a READY module goes on to INTEGRATING (R611). -/
def State.holdupSet (s : State) : State :=
  if s.pwr.holdupGood then State.tryIntegrate { s with pwr := { s.pwr with holdupOk := true } } else s

/-- HOLDUP_MEASURE (R611, R612). -/
def execHoldupMeasure (time : BitVec 12) (vcap : BitVec 10) (s : State) : Answer :=
  if ¬ s.supplied then .next s
  else
    let s : State := { s with pwr := { s.pwr with time := time, vcap := vcap, measured := true } }
    if time.toNat < 600 then
      .next ((State.powerRecord { s with pwr := { s.pwr with holdupOk := false } } 0x07).raise .pwr 4)
    else .next s.holdupSet

/-- HOLDUP_CHARGED (R611). -/
def execHoldupCharged (s : State) : Answer :=
  let s : State := { s with pwr := { s.pwr with charged := true } }
  .next (if s.supplied then s.holdupSet else s)

/-! ### Lane rails and temperature -/

/-- Lane rails outside their windows (R614, R231, R632): `inWin` as IN_WIN. A lane in voting or recovering is excluded with cause SUPPLY;
one that is excluded does not become ready; one that has not started in this BOOT has to reload. -/
def State.railsOut (s : State) (l : LaneId) (inWin : BitVec 4) : State :=
  let ev := (s.lane l).evaluates
  let fresh := decide (s.sys.mode = .boot ∨ s.sys.mode = .verify)
  let s := s.onLane l fun x =>
    { x with
      rails := inWin, railCnt := if ev then satInc x.railCnt else x.railCnt
      stat := { x.stat with ready := false, reload := x.stat.reload || fresh } }
  (((s.excludeLane l 0x0B 11).powerRecord 0x08).raise .pwr 5)

/-- RAIL_OUT (R614). -/
def execRailOut (lane : LaneId) (inWin : BitVec 4) (s : State) : Answer :=
  if s.supplied ∧ (s.lane lane).stat.domainOn ∧ inWin ≠ 0xF then .next (s.railsOut lane inWin) else .next s

/-- RAIL_RECOVER (R614, R615): every rail of the lane has stayed in its window for 100 ms. -/
def execRailRecover (lane : LaneId) (s : State) : Answer :=
  if s.supplied ∧ ¬ (s.lane lane).thermal then .next (s.onLane lane fun x => { x with rails := 0xF }) else .next s

/-- THERMAL_SHUTDOWN (R615): every rail of the lane is out of its window. -/
def execThermalShutdown (lane : LaneId) (s : State) : Answer :=
  if ¬ s.supplied ∨ (s.lane lane).thermal then .next s
  else .next (((s.onLane lane fun x => { x with thermal := true }).raise .pwr 6).railsOut lane 0)

/-- THERMAL_RESTART (R615): the rails follow under R614. -/
def execThermalRestart (lane : LaneId) (s : State) : Answer := .next (s.onLane lane fun x => { x with thermal := false })

/-- TEMP_HIGH (R615, R629): sensors 0 to 5; a POWER record at most once per hour. -/
def execTempHigh (sensor : BitVec 3) (reading : BitVec 16) (s : State) : Answer :=
  let i := sensor.toNat
  if ¬ s.supplied ∨ 6 ≤ i then .next s
  else
    let old := s.pwr.temps.getD i (0, 0)
    let top := if old.2.toInt < reading.toInt then reading else old.2
    let s : State := { s with pwr := { s.pwr with temps := s.pwr.temps.set i (reading, top) } }
    if reading.toInt < 850 then .next s
    else
      let s := s.raise .pwr 7
      let due : Bool := match s.pwr.tempLogAt with
        | some t => decide (t.ticks + 3600 * secondTicks ≤ s.now.ticks)
        | none => true
      if due then .next (State.powerRecord { s with pwr := { s.pwr with tempLogAt := some s.now } } 0x09) else .next s

/-! ### Cabinet lines -/

/-- The commands of the cabinet lines (R487, R618, R619): bit 0 HEALTHY, 1 ROLE_LEAD, 2 FIELD_EN, 3 FORCE_IND. -/
def State.lines (s : State) : BitVec 4 :=
  let m := s.sys.mode
  let v := s.voice.vit
  let healthy := decide (m = .ready ∨ m = .integrating ∨ m = .witness) || m.runs
  ofBit 0 (healthy && !s.moduleWraps) ||| ofBit 1 (m.runs && decide (s.sys.role = .lead))
    ||| ofBit 2 (m.runs && decide (v.reg.grpEn ≠ 0) && !s.fio.silent)
    ||| ofBit 3 s.forceInd

/-- The levels of the lines (R633): a line reads its command, but for those that LINE_MISMATCH has named last (log 39). -/
def State.lineSense (s : State) : BitVec 4 := s.lines ^^^ s.pwr.sense

/-- LINE_MISMATCH (R620): the levels that the senses read. -/
def execLineMismatch (sense : BitVec 4) (s : State) : Answer :=
  let d := sense ^^^ s.lines
  let s : State := { s with pwr := { s.pwr with sense := d } }
  .next (s.raiseIf (s.supplied && decide (d ≠ 0)) .pwr 11)

/-! ### Physical security -/

/-- INTRUSION (R627): the device private key is gone; the POWER record waits for a Reel that is supplied. -/
def execIntrusion (s : State) : Answer :=
  let s : State := { s with pwr := { s.pwr with devKey := false, intruded := true, intruPend := true } }
  .next (if s.supplied then s.dueIntrusion else s)

/-- ENROL_SWITCH (R628): ENROL has been held for 3 s. -/
def execEnrolSwitch (s : State) : Answer :=
  .next (if s.sys.mode = .ready then { s with pwr := { s.pwr with enrolOpen := true } } else s)

/-- ENROL_CLOSE (R628): 600 s later. -/
def execEnrolClose (s : State) : Answer := .next { s with pwr := { s.pwr with enrolOpen := false } }

/-- The service port takes enrolment messages (R628, R651). -/
def State.enrols (s : State) : Bool := s.pwr.enrolOpen && s.coordUp

/-- ENROL_KEYGEN (R628): a new device key pair, whose certificate is still to come, and its certificate request. -/
def execEnrolKeygen (s : State) : Answer :=
  if s.enrols then .next (State.emit { s with pwr := { s.pwr with devKey := true, devCert := none } } .certRequest) else .next s

/-- ENROL_CERT (R627, R628): the certificate of the device key completes the enrolment (DEDUCED, log 41). -/
def execEnrolCert (cert : Cert) (s : State) : Answer :=
  if s.enrols ∧ s.pwr.devKey then
    .next ((State.powerRecord { s with pwr := { s.pwr with devCert := some cert, intruded := false, intruPend := false } } 0x0D).raise
      .pwr 10)
  else .next s

/-- ENROL_KEYSLOT (R263, R628): `agree` says that the lanes' stores agree on it. -/
def execEnrolKeyslot (k : BitVec 2) (key : Option (BitVec 256)) (agree : Bool) (s : State) : Answer :=
  if s.enrols ∧ agree then .next (s.onLanes fun _ l => { l with keys := l.keys.set k.toNat key }) else .next s

end Sys2Proof.Machine
end

