-- ==== Sys2Proof/Machine/Mailbox.lean ====
section
/-! DEFINITION. The coordinator's writes of broadcast mailboxes (R542, R543, R547, R549): GO, the messages of an order list and the local
messages that follow it (R639, R645), and the meaning of MAILBOX_GO. -/

namespace Sys2Proof.Machine

open Sys2Proof

/-- RESTART in a mailbox, where no take reads it (R549, R577): the mode hardware acts on the copies of at least two lanes. -/
def State.restartBox (s : State) (words : List Word) (len : BitVec 5) : State :=
  let ok := decide (field (mbxWord words 0) 0 16 = 0x103#16) && decide (mbxWord words 7 = mbxCheck words len.toNat)
    && decide (2 ≤ (s.lanesWith fun l => l.stat.domainOn).length)
  if ok then s.commandRestart.getD s else s

/-- A SPLICE_BAR message that goes to the lanes is journaled first (R300). -/
def State.barring (s : State) (words : List Word) : State :=
  if field (mbxWord words 0) 0 16 = 0x30#16 then s.journalMarker (field (mbxWord words 8) 0 16) else s

/-- GO with LEN = `len` and the data words `words` in mailbox `k` (R542): ignored while a FULL bit is 1, refused for a LEN out of range. -/
def State.goBox (s : State) (k : BitVec 2) (words : List Word) (len : BitVec 5) : State :=
  if s.boxFull k.toNat then s.raise .mbx 15
  else if len.toNat < 8 ∨ 16 < len.toNat then
    State.raise ((s.onBox k.toNat fun b => { b with words := words, len := len }).reasonNow 0x83 6 (k.zeroExtend 16)) .mbx 13
  else (State.sendBox (s.barring words) k.toNat words len).restartBox words len

/-- MAILBOX_GO (R542, R538): a write to BCk_CTL with GO = 1 by a master. -/
def execMailboxGo (master : BitVec 3) (k : BitVec 2) (len : BitVec 5) (s : State) : Answer :=
  .next (s.access master (0x400B0040 + 0x80 * k.zeroExtend 32) (decide (master = 0)) fun s => s.goBox k (s.bcBox k.toNat).words len)

/-- The coordinator writes a message into mailbox `k`; words that it does not use stand as they are. -/
def State.postBox (s : State) (k : Nat) (words : List Word) : State :=
  s.goBox (BitVec.ofNat 2 k) (words ++ (s.bcBox k).words.drop words.length) (BitVec.ofNat 5 words.length)

/-- A message with its SEQ, TAKE and CHECK (R541). -/
def stampWords (w : List Word) (seq take : Word) : List Word :=
  let w := (w.set 1 seq).set 2 take
  w.set 7 (mbxCheck w w.length)

/-- IND_RESULT to a session that is still open; a message that has no session here gets none (R647). -/
def State.answer (s : State) (sid : Option Nat) (msgId : Word) (code : BitVec 4) (take : Word) : State :=
  match sid with
  | some n =>
    if n = 0 ∨ s.port.sessions.any fun (c : TlsSession) => decide (c.sid = n) then s.emit (.result n msgId code take) else s
  | none => s

/-- The order list of take `take` goes into BC0 onwards, and local messages into the mailboxes that it leaves free, with the SEQ that
follows its highest (R639, R645). -/
def State.writeList (s : State) (msgs : List (List Word)) (take : Word) : State :=
  let msgs := msgs.take 4
  let s := ((List.range msgs.length).zip msgs).foldl (fun (s : State) (e : Nat × List Word) => s.postBox e.1 e.2) s
  let top := msgs.foldl (fun m w => if later (mbxWord w 1) m then mbxWord w 1 else m) s.port.seq
  let s : State := { s with port := { s.port with seq := top } }
  let room := ((List.range 4).drop msgs.length).filter fun k => !s.boxFull k
  let now := s.port.locals.take room.length
  let s : State := { s with port := { s.port with locals := s.port.locals.drop room.length } }
  ((List.range now.length).zip (room.zip now)).foldl (fun (s : State) (e : Nat × Nat × LocalMsg) =>
    (s.postBox e.2.1 (stampWords e.2.2.words (top + 1 + BitVec.ofNat 32 e.1) take)).answer e.2.2.sid e.2.2.msgId 0 take) s

end Sys2Proof.Machine
end

