-- ==== Sys2Proof/Machine/Ports.lean ====
section
/-! DEFINITION. Control and service ports (19): sessions (R635 to R637), batches and relayed messages (R640, R643), authorisation (R641,
R642), the order list (R644, R645), requests for information (R647, R648, R650), IEEE 1588 (R649, R650, R409), the service link (R557,
R651), and the meanings of their commands. -/

namespace Sys2Proof.Machine

open Sys2Proof

/-! ### Sessions -/

/-- The UTC that certificates are checked against (R636). -/
def PtpSt.certTime (p : PtpSt) : Nat := if p.locked then p.utc else p.highUtc

/-- The client certificate is accepted (R636, R637): the role that it sets. -/
def State.certRole (s : State) (c : Cert) : Option ClientRole :=
  match s.pwr.devCert with
  | some d =>
    let t := s.port.ptp.certTime
    if c.issuer = d.issuer ∧ c.notBefore ≤ t ∧ t ≤ c.notAfter then c.role else none
  | none => none

/-- What a client offers lies within R636. -/
def helloOk (h : TlsHello) : Bool :=
  h.tls13 && decide (h.suite ≠ .other) && decide (h.group ≠ .other) && decide (h.scheme ≠ .other) && !h.resumes

/-- TLS_OPEN (R627, R635 to R637): at most 4 sessions on each port. -/
def execTlsOpen (cp2 : Bool) (hello : TlsHello) (s : State) : Answer :=
  let p := s.port
  let room := decide ((p.sessions.filter fun (c : TlsSession) => decide (c.cp2 = cp2)).length < 4)
  match hello.cert with
  | some c =>
    match s.certRole c with
    | some r =>
      if s.coordUp ∧ ¬ s.pwr.intruded ∧ s.pwr.devKey ∧ helloOk hello ∧ room then
        .next { s with port := { p with
          sessions := p.sessions ++ [{ sid := p.nextSid, cp2 := cp2, role := r, digest := c.digest }], nextSid := p.nextSid + 1 } }
      else .next s
    | none => .next s
  | none => .next s

/-- A session closes (R635). -/
def State.closeSession (s : State) (sid : Nat) : State :=
  if s.port.sessions.any fun (c : TlsSession) => decide (c.sid = sid) then
    State.emit { s with port := { s.port with sessions := s.port.sessions.filter fun (c : TlsSession) => decide (c.sid ≠ sid) } }
      (.closed sid)
  else s

/-- SESSION_IDLE_CLOSE (R635). -/
def execSessionIdleClose (sid : Nat) (s : State) : Answer := .next (s.closeSession sid)

/-- TLS_SESSION_CLOSE (R635). -/
def execTlsSessionClose (sid : Nat) (s : State) : Answer := .next (s.closeSession sid)

/-- The session that a message came on, while the coordinator takes messages. -/
def State.session (s : State) (sid : Nat) : Option TlsSession :=
  if s.coordUp then s.port.sessions.find? fun (c : TlsSession) => decide (c.sid = sid) else none

/-! ### Messages -/

/-- The bytes of a control message with its header (R638). -/
def msgBytes (m : CtlMsg) : Bytes := toBytes 4 (BitVec.ofNat 32 (12 + m.args.length)) ++ toBytes 2 m.type ++ [0, 0] ++ toBytes 4 m.msgId ++ m.args

/-- A complete message read from bytes, where its header is in order (R638). -/
def msgOf (b : Bytes) : Option CtlMsg :=
  if 12 ≤ b.length ∧ getBE 32 b 0 4 = BitVec.ofNat 32 b.length ∧ getBE 16 b 6 2 = 0#16 then
    some { type := getBE 16 b 4 2, msgId := getBE 32 b 8 4, args := b.drop 12 }
  else none

/-- The arguments of an authorised message in bytes (R639; DESIGN CHOICE where the spec gives no width, log 19); none for a type that
PROPOSE does not wrap. -/
def authArgLen (ty : BitVec 16) : Option Nat :=
  let t := ty.toNat
  if t = 0x10 ∨ t = 0x11 ∨ (0x20 ≤ t ∧ t ≤ 0x25) ∨ t = 0x30 ∨ t = 0x32 ∨ t = 0x101 ∨ t = 0x420 then some 4
  else if 0x50 ≤ t ∧ t ≤ 0x52 then some 6
  else if t = 0x31 ∨ t = 0x33 ∨ t = 0x40 ∨ t = 0x41 ∨ t = 0x103 ∨ t = 0x404 ∨ t = 0x411 ∨ t = 0x412 then some 0
  else if t = 0x410 then some 21
  else none

/-- An ordered message (R639). -/
def isOrdered (ty : BitVec 16) : Bool := decide (ty.toNat ≤ 0xFF)

/-- The home of a message of this type is the lead (R641). -/
def leadHome (ty : BitVec 16) : Bool := isOrdered ty || decide (ty = 0x410 ∨ ty = 0x411)

/-- The lead orders messages (R643). -/
def State.orders (s : State) : Bool := s.coordUp && s.sys.mode.runs && decide (s.sys.role = .lead)

/-- A message that the second relays to the lead (R641, R643). -/
def State.relay (s : State) (c : TlsSession) (m : CtlMsg) : State := { s with net := s.net.queue (.relay c.digest c.role m) }

/-- SOURCE of a message that came on a session (R541); one that the second relayed counts as control port 1 (log 42). -/
def State.sourceWord (s : State) (sid : Option Nat) : Word :=
  if s.port.sessions.any fun (c : TlsSession) => decide (some c.sid = sid) && c.cp2 then 0x200 else 0x100

/-! ### Batches -/

/-- A message equal to one that the lead has ordered in the last 256 takes, or accepted: client and MSG_ID (R643). -/
def State.repeated (s : State) (client : BitVec 48) (msgId : Word) : Bool :=
  (s.port.ordered.any fun e => decide (e.1 = client ∧ e.2.1 = msgId ∧ (s.take.num - e.2.2).toNat < 256))
    || (s.port.items.any fun (a : Accepted) => decide (a.client = client ∧ a.msgId = msgId))

/-- The lead accepts the items of a BATCH (R640, R643); empty items are ignored. -/
def State.acceptBatch (s : State) (sid : Option Nat) (client : BitVec 48) (msgId : Word) (items : List (BitVec 16)) : State :=
  let new : List Accepted := ((List.range items.length).zip items).filterMap fun (e : Nat × BitVec 16) =>
    if field e.2 13 3 = 0#3 then none else some { sid := sid, client := client, msgId := msgId, item := e.2, idx := e.1 }
  if s.repeated client msgId ∨ new = [] then s.answer sid msgId 0 (s.take.num + 1)
  else { s with port := { s.port with items := s.port.items ++ new } }

/-- BATCH (R637, R640, R643, R647). -/
def execBatch (sid : Nat) (msgId : Word) (items : List (BitVec 16)) (s : State) : Answer :=
  match s.session sid with
  | none => .next s
  | some c =>
    if c.role = .maint then .next (s.answer (some sid) msgId 3 0)
    else if items = [] ∨ 16 < items.length then .next (s.answer (some sid) msgId 4 0)
    else if s.orders then .next (s.acceptBatch (some sid) c.digest msgId items)
    else if s.sys.mode.runs ∧ s.sys.role = .second then
      .next ((s.relay c { type := 1, msgId := msgId, args := items.flatMap fun i => toBytes 2 i }).answer (some sid) msgId 1 0)
    else .next (s.answer (some sid) msgId 5 0)

/-! ### Authorisation -/

/-- A proposal at its home (R641): a result of R647. -/
def State.hold (s : State) (sid : Option Nat) (client : BitVec 48) (msgId : Word) (m : CtlMsg) : State × BitVec 4 :=
  if 8 ≤ s.port.proposals.length then (s, 7)
  else
    ({ s with port := { s.port with proposals := s.port.proposals ++
        [{ sid := sid, client := client, msgId := msgId, msg := m, digest := digest16 (msgBytes m) }] } }, 2)

/-- A proposal or confirmation that is accepted or refused: its result, and a COMMAND record with it (R641, R647). -/
def State.settle (s : State) (ty : BitVec 16) (sid : Option Nat) (client : BitVec 48) (msgId : Word) (code : BitVec 4) : State :=
  (s.answer sid msgId code 0).commandRecord ty client (code.zeroExtend 8)

/-- The message is one that PROPOSE may wrap, with arguments of its length (R638, R639). -/
def proposable (m : CtlMsg) : Bool := decide (authArgLen m.type = some m.args.length)

/-- PROPOSE (R641, R647). -/
def execPropose (sid : Nat) (msgId : Word) (msg : CtlMsg) (s : State) : Answer :=
  match s.session sid with
  | none => .next s
  | some c =>
    let refuse := fun (code : BitVec 4) => s.settle 0x430 (some sid) c.digest msgId code
    if c.role ≠ .authority then .next (refuse 3)
    else if ¬ proposable msg then .next (refuse 4)
    else if leadHome msg.type ∧ ¬ s.orders then
      if s.sys.mode.runs ∧ s.sys.role = .second then
        .next ((s.relay c { type := 0x430, msgId := msgId, args := msgBytes msg }).answer (some sid) msgId 1 0)
      else .next (refuse 5)
    else
      let r := s.hold (some sid) c.digest msgId msg
      .next (r.1.settle 0x430 (some sid) c.digest msgId r.2)

/-- ARGS of a mailbox message from the arguments of a control message (log 19). -/
def argsOf (b : Bytes) : List Word := (List.range ((b.length + 3) / 4)).map fun i => getBE 32 b (4 * i) 4

/-- AUTH (R642): bytes 0 to 5 the proposer, 6 to 11 the confirmer. -/
def authWords (proposer confirmer : BitVec 48) : List Word := argsOf (toBytes 6 proposer ++ toBytes 6 confirmer)

/-- A confirmed local message (R548, R549, R639): in a mode that runs takes it waits for a mailbox; otherwise RESTART reaches the mode
hardware, and the lanes take nothing. -/
def State.releaseLocal (s : State) (p : Proposal) (confirmer : BitVec 48) (sid : Option Nat) (msgId : Word) : State × Option (BitVec 4) :=
  if s.takesRun then
    (s.queueLocal (draftWords p.msg.type (s.sourceWord p.sid) (authWords p.client confirmer) (argsOf p.msg.args)) sid msgId, none)
  else if p.msg.type = 0x103 then
    match s.commandRestart with
    | some t => (t, some 0)
    | none => (s, some 5)
  else (s, some 5)

/-- The confirmed message goes to the rules of its kind (R639, R641): the result, where it is known at once. -/
def State.release (s : State) (p : Proposal) (confirmer : BitVec 48) (sid : Option Nat) (msgId : Word) : State × Option (BitVec 4) :=
  let m := p.msg
  let done := fun (r : State × Bool) => (r.1, some (if r.2 then (0 : BitVec 4) else 5))
  if isOrdered m.type then
    if ¬ s.orders then (s, some 5)
    else if s.repeated p.client m.msgId ∨ s.port.auths.any fun (a : AuthMsg) => decide (a.proposer = p.client ∧ a.msg = m) then (s, some 0)
    else
      ({ s with port := { s.port with auths := s.port.auths ++
          [{ msg := m, proposer := p.client, confirmer := confirmer, sid := sid, msgId := msgId }] } }, none)
  else if m.type = 0x101 ∨ m.type = 0x103 then s.releaseLocal p confirmer sid msgId
  else if m.type = 0x410 then done (s.actSchedule (getBE 40 m.args 0 5) (getBE 128 m.args 5 16) confirmer)
  else if m.type = 0x411 then done s.actCancel
  else if m.type = 0x412 then done s.actLocal
  else if m.type = 0x420 then
    let t := s.askClear (getBE 32 m.args 0 4) confirmer
    (t, some (if t.reel.clearOut ≠ 1 ∧ ¬ t.reel.clearing ∧ t.reel.clearReq = none then 5 else 0))
  else if m.type = 0x404 then done (s.stageDiscard (.client confirmer) true)
  else (s, some 4)

/-- A CONFIRM that matches a proposal held here (R641, R647). -/
def State.confirm (s : State) (p : Proposal) (client : BitVec 48) (sid : Option Nat) (msgId : Word) : State :=
  if p.client = client then s.settle 0x431 sid client msgId 3
  else
    let s := { s with port := { s.port with proposals := s.port.proposals.erase p } }
    let r := s.release p client sid msgId
    match r.2 with
    | some c => r.1.settle 0x431 sid client msgId c
    | none => r.1.commandRecord 0x431 client 0

/-- The open proposal with this digest. -/
def State.proposal (s : State) (d : Quad) : Option Proposal := s.port.proposals.find? fun (p : Proposal) => decide (p.digest = d)

/-- CONFIRM (R641, R647). -/
def execConfirm (sid : Nat) (msgId : Word) (digest : Quad) (s : State) : Answer :=
  match s.session sid with
  | none => .next s
  | some c =>
    if c.role ≠ .authority then .next (s.settle 0x431 (some sid) c.digest msgId 3)
    else
      match s.proposal digest with
      | some p => .next (s.confirm p c.digest (some sid) msgId)
      | none =>
        if s.sys.mode.runs ∧ s.sys.role = .second then
          .next ((s.relay c { type := 0x431, msgId := msgId, args := toBytes 16 digest }).answer (some sid) msgId 1 0)
        else .next (s.settle 0x431 (some sid) c.digest msgId 5)

/-- PROPOSAL_LAPSE (R641, R647): 60 s without a CONFIRM. -/
def execProposalLapse (digest : Quad) (s : State) : Answer :=
  match s.proposal digest with
  | some p =>
    .next (State.settle { s with port := { s.port with proposals := s.port.proposals.erase p } } 0x430 p.sid p.client p.msgId 6)
  | none => .next s

/-- The items of a relayed BATCH. -/
def itemsOf (b : Bytes) : List (BitVec 16) := (List.range (b.length / 2)).map fun i => getBE 16 b (2 * i) 2

/-- TUNNEL_RELAY (R641, R643): no session here answers a relayed message. -/
def execTunnelRelay (client : BitVec 48) (role : ClientRole) (msg : CtlMsg) (s : State) : Answer :=
  if ¬ s.orders then .next s
  else if msg.type = 1 then
    let items := itemsOf msg.args
    if role = .maint ∨ msg.args.length % 2 = 1 ∨ items = [] ∨ 16 < items.length then .next s
    else .next (s.acceptBatch none client msg.msgId items)
  else if msg.type = 0x430 then
    match msgOf msg.args with
    | some m =>
      if role ≠ .authority then .next (s.settle 0x430 none client msg.msgId 3)
      else if ¬ (proposable m ∧ leadHome m.type) then .next (s.settle 0x430 none client msg.msgId 4)
      else
        let r := s.hold none client msg.msgId m
        .next (r.1.settle 0x430 none client msg.msgId r.2)
    | none => .next (s.settle 0x430 none client msg.msgId 4)
  else if msg.type = 0x431 then
    if role ≠ .authority then .next (s.settle 0x431 none client msg.msgId 3)
    else
      match s.proposal (getBE 128 msg.args 0 16) with
      | some p => .next (s.confirm p client none msg.msgId)
      | none => .next (s.settle 0x431 none client msg.msgId 5)
  else .next s

/-! ### The order list -/

/-- What an order point takes of the accepted items (R644): `out` goes into the list, `held` stays. -/
structure OrderSt where
  out  : List Accepted
  held : List Accepted
  reqs : Nat
  deriving DecidableEq, Repr

/-- OP and operand of an item (R640). -/
def itemOp (a : Accepted) : BitVec 3 := field a.item 13 3
/-- The operand of an item. -/
def itemArg (a : Accepted) : BitVec 13 := field a.item 0 13

/-- One accepted item at the order point (R644): `room` items find place, and `pend` requests are pending in the lanes. -/
def orderItem (room pend : Nat) (o : OrderSt) (a : Accepted) : OrderSt :=
  let hold : OrderSt := { o with held := o.held ++ [a] }
  let req := decide (itemOp a = 1#3)
  if room ≤ o.out.length then hold
  else if req ∧ (64 ≤ o.reqs ∨ 256 ≤ pend + o.reqs) then hold
  else if itemOp a = 2#3 ∧ o.held.any fun (h : Accepted) => decide (itemOp h = 1#3 ∧ itemArg h = itemArg a) then hold
  else { o with out := o.out ++ [a], reqs := if req then o.reqs + 1 else o.reqs }

/-- Items in batches of 16. -/
def batches : Nat → List Accepted → List (List Accepted)
  | 0, _ => []
  | n + 1, l => if l = [] then [] else l.take 16 :: batches n (l.drop 16)

/-- The ARGS of a BATCH: two items a word, the first in bits 31:16 (log 19). -/
def batchArgs (l : List Accepted) : List Word := argsOf (l.flatMap fun a => toBytes 2 a.item)

/-- ORDERED to each message that the list carries for the first time, which the lead keeps for 256 takes (R643, R647). -/
def State.reportOrdered (s : State) (out : List Accepted) (take : Word) : State :=
  out.foldl (fun (s : State) (a : Accepted) =>
    if s.port.ordered.any fun e => decide (e.1 = a.client ∧ e.2.1 = a.msgId) then s
    else State.answer { s with port := { s.port with ordered := s.port.ordered ++ [(a.client, a.msgId, take)] } } a.sid a.msgId 0 take) s

/-- The order point of a take (R644, R645). -/
def State.orderPoint (s : State) : State :=
  let next := s.take.num + 1
  let p := s.port
  let ordered := p.ordered.filter fun e => decide ((s.take.num - e.2.2).toNat < 256)
  let auths := p.auths.take 2
  let o := p.items.foldl (orderItem (16 * (4 - auths.length)) s.voice.vit.pending.length) { out := [], held := [], reqs := 0 }
  let drafts := (auths.map fun (a : AuthMsg) =>
      draftWords a.msg.type (s.sourceWord a.sid) (authWords a.proposer a.confirmer) (argsOf a.msg.args))
    ++ ((batches 4 o.out).map fun (l : List Accepted) => draftWords 1 (s.sourceWord ((l.head?).bind (·.sid))) [0, 0, 0] (batchArgs l))
  let msgs := ((List.range drafts.length).zip drafts).map fun (e : Nat × List Word) =>
    stampWords e.2 (p.seq + 1 + BitVec.ofNat 32 e.1) next
  let s : State := { s with
    port := { p with auths := p.auths.drop 2, items := o.held, listTake := some next
                     ordered := ordered ++ auths.map fun (a : AuthMsg) => (a.proposer, a.msg.msgId, next) }
    net := s.net.queue (.orders s.pair.claim msgs) }
  let s := auths.foldl (fun (s : State) (a : AuthMsg) => s.answer a.sid a.msgId 0 next) s
  (s.reportOrdered o.out next).writeList msgs next

/-- ORDER_POINT (R644): slot 3584 of the round before the last round of the take, once in a take. -/
def execOrderPoint (s : State) : Answer :=
  if ¬ s.orders ∨ s.take.point = .idle ∨ s.port.listTake = some (s.take.num + 1) then .next s
  else
    let t := { NetTime.atRound (s.take.start.round + BitVec.ofNat 40 (s.take.nCur.toNat - 2)) with slot := 3584 }
    .next (s.reachTime t).orderPoint

/-- ORDER_LIST (R645): the second takes it with the claim of its own HOLDER. -/
def execOrderList (claim : Word) (msgs : List (List Word)) (s : State) : Answer :=
  if s.coordUp ∧ s.takesRun ∧ s.sys.role = .second ∧ s.pair.usable ∧ claim = s.pair.claim then
    let next := s.take.num + 1
    .next (State.writeList { s with port := { s.port with listTake := some next } } msgs next)
  else .next s

/-! ### Requests for information -/

/-- A session of any role, or the service port, which is 0 (R637, R651). -/
def State.asks (s : State) (sid : Nat) : Bool := s.coordUp && (decide (sid = 0) || (s.session sid).isSome)

/-- SNAPSHOT_REQ (R647, R648): every element as its vital mirror shows it. -/
def execSnapshotReq (sid : Nat) (msgId : Word) (s : State) : Answer :=
  if s.asks sid then .next ((s.answer (some sid) msgId 0 0).emit (.snapshot sid s.mirror.vec)) else .next s

/-- TIME_REQ (R647, R650). -/
def execTimeReq (sid : Nat) (msgId : Word) (s : State) : Answer :=
  let p := s.port.ptp
  if s.asks sid then .next ((s.answer (some sid) msgId 0 0).emit (.time sid p.offset p.utcOffset p.locked p.lastSync)) else .next s

/-! ### IEEE 1588 -/

/-- The module uses the master of this port (R649): the better one, and CP1 on equality; a lower rank is better. -/
def PtpSt.uses (p : PtpSt) (cp2 : Bool) : Bool :=
  match p.rankA, p.rankB with
  | some x, some y => if cp2 then decide (y < x) else decide (x ≤ y)
  | _, _ => true

/-- A synchronization of the master in use (R650): offset of TAI from network time in ns, currentUtcOffset and UTC in seconds. -/
def PtpSt.sync (p : PtpSt) (now : NetTime) (offset utcOffset : Int) (utc : Nat) : PtpSt :=
  let near := decide (offset ≤ p.offset + 100000) && decide (p.offset ≤ offset + 100000)
  let n := if p.agree = 0 ∨ near = false then 1 else p.agree + 1
  let locked := p.locked || decide (16 ≤ n)
  { p with offset := offset, utcOffset := utcOffset, locked := locked, agree := n, lastSync := now, utc := utc
           highUtc := if locked then max p.highUtc utc else p.highUtc }

/-- UTC lies in the wrap window (R409, R425). -/
def inWrapWindow (win : Word) (utc : Nat) : Bool :=
  let start := (field win 0 11).toNat
  decide ((utc / 60 % 1440 + 1440 - start) % 1440 < (field win 16 11).toNat)

/-- The wrap window opens and closes with UTC (R409, R411, R412): a window that opens begins with no cycle of its own. -/
def PairSt.followWindow (p : PairSt) (locked : Bool) (utc : Nat) : PairSt :=
  if locked && inWrapWindow p.wrapWin utc then
    if p.winOpen then p else { p with winOpen := true, cycleOn := false, cycleNext := 0, cycleDone := false }
  else if p.winOpen then p.closeWindow
  else p

/-- PTP_SYNC (R409, R649, R650). -/
def execPtpSync (cp2 : Bool) (domain : Byte) (rank : Nat) (offset utcOffset : Int) (utc : Nat) (s : State) : Answer :=
  if ¬ s.coordUp ∨ domain ≠ 0 then .next s
  else
    let p := s.port.ptp
    let p := if cp2 then { p with rankB := some rank } else { p with rankA := some rank }
    let q := if p.uses cp2 then p.sync s.now offset utcOffset utc else p
    .next { s with port := { s.port with ptp := q }, pair := s.pair.followWindow q.locked q.utc }

/-- UTC_UNLOCK (R409, R650): 10 s without an accepted synchronization. -/
def execUtcUnlock (s : State) : Answer :=
  .next { s with
    port := { s.port with ptp := { s.port.ptp with locked := false, agree := 0, rankA := none, rankB := none } }
    pair := s.pair.closeWindow }

/-- WRAP_WINDOW_CLOSE (R411, R412). -/
def execWrapWindowClose (s : State) : Answer := .next { s with pair := s.pair.closeWindow }

/-- SERVICE_LINK_DROP (R557, R651). -/
def execServiceLinkDrop (s : State) : Answer := .next (s.releaseLocks 6)

end Sys2Proof.Machine
end

