-- ==== Sys2Proof/Machine/Registers.lean ====
section
/-! DEFINITION. The register space (R15 to R21, R538): what a write does under the access code of its register (R16, R17, R58, R108, R254,
R342, R374, R419, R461, R488, R509, R532, R558, R562, R563, R580, R602, R629), the value that each register shows, and the meaning of
REGISTER_WRITE. -/

namespace Sys2Proof.Machine

open Sys2Proof

/-! ### Writes -/

/-- Flags cleared by a W1C write (R16). -/
def State.clearFlags (s : State) (b : Blk) (v : Word) : State := { s with flags := s.flags.set b (s.flags.get b &&& ~~~v) }

/-- The sticky flag register at an offset of block `n` (R552): FAB holds SCRUB_FLAGS, EVT the software flags. -/
def flagRegister (n o : Nat) : Option Blk :=
  match n, o with
  | 0, 0x060 => some .sys
  | 1, 0x044 => some .adapt
  | 2, 0x030 => some .lane
  | 3, 0x070 => some .scrub
  | 4, 0x030 => some .net
  | 5, 0x0C0 => some .ses
  | 6, 0x030 => some .pair
  | 7, 0x050 => some .fio
  | 8, 0x018 => some .reel
  | 9, 0x040 => some .stg
  | 10, 0x0CC => some .sw
  | 11, 0x800 => some .mbx
  | 12, 0x120 => some .sem
  | 13, 0x008 => some .pmc
  | 14, 0x030 => some .wrap
  | 15, 0x050 => some .pwr
  | _, _ => none

/-- The words of EVT_PRIO without the bits that are RSV (R562). -/
def prioMask : Word := 0x77777777

/-- A write to the event controller (R553, R562). -/
def State.writeEvt (s : State) (o : Nat) (v : Word) : State :=
  let e := s.evt
  if o < 0x20 then { s with evt := { e with en := setField e.en (8 * o) v } }
  else if o < 0x40 then { s with evt := { e with pend := setField e.pend (8 * (o - 0x20)) (field e.pend (8 * (o - 0x20)) 32 &&& ~~~v) } }
  else if o < 0xC0 then { s with evt := { e with prio := setField e.prio (8 * (o - 0x40)) (v &&& prioMask) } }
  else if o = 0xC4 then { s with evt := { e with thresh := field v 0 3 } }
  else if o = 0xC8 then s.swSet v
  else s

/-- A write to a register of a broadcast mailbox (R542, R559): data, or CTL with or without GO. -/
def State.writeBox (s : State) (o : Nat) (v : Word) : State :=
  let k := o / 0x80
  let i := o % 0x80 / 4
  if 16 < i then s
  else if i = 16 ∧ bit v 5 then s.goBox (BitVec.ofNat 2 k) (s.bcBox k).words (field v 0 5)
  else if s.boxFull k then s.raise .mbx 15
  else if i = 16 then s.onBox k fun b => { b with len := field v 0 5 }
  else s.onBox k fun b => { b with words := b.words.set i v }

/-- A write to the performance counters (R592 to R599, R602). -/
def State.writePmc (s : State) (o : Nat) (v : Word) : State :=
  let p := s.pmc
  match o with
  | 0x000 => s.pmcCtl v
  | 0x020 => { s with pmc := { p with sel := field v 0 8 } }
  | 0x024 => s.pmcCfg v
  | 0x030 => { s with pmc := { p with presetHi := field v 0 16 } }
  | 0x034 => s.pmcPreset v
  | 0x060 => { s with pmc := { p with base0 := v } }
  | 0x064 => { s with pmc := { p with lim0 := v } }
  | 0x068 => { s with pmc := { p with base1 := v } }
  | 0x06C => { s with pmc := { p with lim1 := v } }
  | _ =>
    if 0x40 ≤ o ∧ o < 0x60 then
      { s with pmc := { p with wraps := setField p.wraps (8 * (o - 0x40)) (field p.wraps (8 * (o - 0x40)) 32 &&& ~~~v) } }
    else s

/-- A write to a register of the other blocks (R16, R17); one that is RO, RSV or undefined changes nothing. -/
def State.writePlain (s : State) (n o : Nat) (v : Word) : State :=
  match n, o with
  | 0, 0x044 => { s with sys := { s.sys with forceSel := field v 0 8 } }
  | 1, 0x034 => s.marginClr
  | 4, 0x080 => { s with net := { s.net with csSel := field v 0 12 } }
  | 5, 0x080 => { s with ses := { s.ses with sel := field v 0 9 } }
  | 6, 0x060 => { s with pair := { s.pair with wrapCfg := v &&& 0xFFFF } }
  | 6, 0x064 => s.wrapWin v
  | 7, 0x060 => { s with fio := { s.fio with pinSel := field v 0 6 } }
  | 7, 0x080 => s.cntSnap
  | 7, 0x084 => { s with fio := { s.fio with ovf := s.fio.ovf &&& ~~~(field v 0 8) } }
  | 8, 0x020 => { s with reel := { s.reel with rdIdx := field v 0 23 } }
  | 8, 0x050 => { s with reel := { s.reel with rateSel := field v 0 8 } }
  | 8, 0x054 => s.writeRate v
  | 14, 0x020 => { s with wrap := { s.wrap with sel := field v 0 10 } }
  | 15, 0x040 => { s with pwr := { s.pwr with standinEn := bit v 0 } }
  | _, _ => if n = 7 ∧ 0x0A0 ≤ o ∧ o < 0x0C0 then s.cntPreset ((o - 0x0A0) / 4 + 1) v else s

/-- A write that the bus admits, by master `m`, at offset `o` of block `n`. -/
def State.writeReg (s : State) (m : BitVec 3) (n o : Nat) (v : Word) : State :=
  match flagRegister n o with
  | some b => s.clearFlags b v
  | none =>
    if n = 10 then s.writeEvt o v
    else if n = 11 then (if o < 0x200 then s.writeBox o v else s)
    else if n = 12 then
      (if o < 0x80 then s.lockWrite m (BitVec.ofNat 5 (o / 4)) v else if o = 0x124 then s.lockForce v else s)
    else if n = 13 then s.writePmc o v
    else s.writePlain n o v

/-- Block and offset of an address of the register space (R20). -/
def regPlace (a : Word) : Nat × Nat := ((field a 16 4).toNat, (field a 0 16).toNat)

/-- The register space admits the write (R15, R21, R542, R557): a whole word, aligned, within the blocks, and broadcast mailboxes and
SEM_FORCE for master 0 only. Below 0x4000_0000 there is no register (DEDUCED, log 43). -/
def writeOk (m : BitVec 3) (a : Word) (size : BitVec 4) : Bool :=
  let r := regPlace a
  decide (size = 4) && decide (field a 0 2 = 0#2) && decide (field a 20 12 = 0x400#12)
    && (decide (m = 0) || !(decide (r.1 = 11) && decide (r.2 < 0x200)) && !(decide (r.1 = 12) && decide (r.2 = 0x124)))

/-- REGISTER_WRITE (R15 to R21, R538): a write of `size` bytes by a master. -/
def execRegisterWrite (master : BitVec 3) (addr : Word) (size : BitVec 4) (value : Word) (s : State) : Answer :=
  let r := regPlace addr
  .next (s.access master addr (writeOk master addr size) fun t =>
    let u := t.writeReg master r.1 r.2 value
    if addr = 0x400D0000 then State.freezePrevails s t u else u)

/-! ### The value of a register -/

/-- SYS (R488 to R494). -/
def State.readSys (s : State) (o : Nat) : Word :=
  let y := s.sys
  match o with
  | 0x000 => 0x4096 ||| place 32 16 Config.variant
  | 0x004 => Config.serial
  | 0x008 => y.fwVersion
  | 0x00C => y.imgId
  | 0x010 => y.imgVersion
  | 0x030 => y.restart
  | 0x034 => place 32 0 y.cold ||| place 32 16 y.warm
  | 0x038 => BitVec.ofNat 32 (min 3 (recentCuts s.now s.voice.store.cuts).length)
  | 0x044 => place 32 0 y.forceSel
  | _ =>
    if 0x48 ≤ o ∧ o < 0x58 then
      match s.mirror.force[y.forceSel.toNat]? with
      | some e =>
        wordAt (toBytes 2 (setBit (e.target.zeroExtend 16 : BitVec 16) 15 true) ++ [e.type, e.first, e.width, e.value, 0, 0] ++ toBytes 4 e.take)
          ((o - 0x48) / 4)
      | none => 0
    else s.mirrorWord (0x40000000 + BitVec.ofNat 32 o)

/-- TAKE (R58 to R66). -/
def State.readTake (s : State) (o : Nat) : Word :=
  match o with
  | 0x018 => s.take.startHi
  | 0x030 => place 32 0 s.take.marginLow
  | 0x038 => 0x2EE7D2BC
  | _ =>
    let a := 0x40010000 + BitVec.ofNat 32 o
    if o < 0x20 then s.mirrorWord a else wordFor s.mirror.meas a

/-- LANE (R254 to R259). -/
def State.readLane (s : State) (o : Nat) : Word :=
  let a := 0x40020000 + BitVec.ofNat 32 o
  s.mirrorWord a ||| wordFor s.mirror.meas a

/-- FAB (R107 to R115). -/
def State.readFab (s : State) (o : Nat) : Word :=
  let a := 0x40030000 + BitVec.ofNat 32 o
  s.mirrorWord a ||| wordFor s.mirror.meas a

/-- The code of SYNC (R344). -/
def Sync.code : Sync → BitVec 3
  | .notStarted => 0
  | .listening => 1
  | .backingOff => 2
  | .integrating => 3
  | .integrated => 4
  | .silent => 5

/-- PATH of a ring (R328, R342): the stream with the lower path delay of those in use, and the forward stream on equality. The network
time of the primary time master is its own, and its PATH is 0 (R309). -/
def pathWord (master : Bool) (x : RingSt) : Word :=
  if master then 0
  else if x.timeRev then place 32 0 x.rev.path ||| ofBit 24 true
  else if x.fwd.use then place 32 0 x.fwd.path
  else 0

/-- RING of a ring (R345). -/
def ringWord (x : RingSt) : Word := ofBit 0 x.inSignal ||| ofBit 1 x.outSignal ||| ofBit 2 x.fwd.use ||| ofBit 3 x.rev.use

/-- NET (R342 to R347). -/
def State.readNet (s : State) (o : Nat) : Word :=
  let n := s.net
  let entry := s.voice.data.callSheet.getD n.csSel.toNat 0
  match o with
  | 0x000 =>
    place 32 0 (Sync.code n.sync) ||| ofBit 3 n.starter ||| ofBit 4 n.master ||| place 32 5 n.slateSrc ||| ofBit 7 n.terminating
  | 0x004 => place 32 0 n.node ||| ofBit 12 (decide (n.node ≠ 0))
  | 0x008 => ringWord n.ringA
  | 0x00C => ringWord n.ringB
  | 0x010 => pathWord n.master n.ringA
  | 0x014 => pathWord n.master n.ringB
  | 0x018 => place 32 0 n.ringA.hopIn ||| place 32 16 n.ringA.hopOut
  | 0x01C => place 32 0 n.ringB.hopIn ||| place 32 16 n.ringB.hopOut
  | 0x020 => place 32 0 n.ofs ||| place 32 16 n.drift ||| ofBit 31 n.ofsValid
  | 0x024 => place 32 0 n.contended ||| place 32 8 n.rival
  | 0x080 => place 32 0 n.csSel
  | 0x084 => field entry 32 32
  | 0x088 => field entry 0 32
  | 0x08C => BitVec.ofNat 32 (s.voice.data.callSheet.countP fun e => decide (csSmode e ≠ 0))
  | _ => if 0x40 ≤ o ∧ o < 0x68 then n.shown.getD ((o - 0x40) / 4) 0 else 0

/-- SES (R374 to R377). -/
def State.readSes (s : State) (o : Nat) : Word :=
  let n := s.ses.sel
  let e := sesEntry s.voice.data n
  let r := sesRecOf s.mirror.ses n
  let x := rxOf s.voice.rx n
  if o < 0x80 then s.mirrorWord (0x40050000 + BitVec.ofNat 32 o)
  else
    match o with
    | 0x080 => place 32 0 n
    | 0x0B0 => s.ses.disRx
    | 0x0B4 => place 32 0 s.ses.staleNow
    | _ =>
      if n = 0 then 0
      else
        match o with
        | 0x084 => place 32 0 (sesKind e) ||| place 32 2 (sesFresh e) ||| place 32 10 (sesPeer e) ||| ofBit 22 (sesAtVital e)
        | 0x088 => place 32 0 (sesCmdSlot e) ||| place 32 16 (sesRspSlot e)
        | 0x08C =>
          place 32 0 r.age ||| ofBit 8 r.fresh ||| ofBit 9 r.ever ||| ofBit 10 r.claimAhead ||| ofBit 11 r.diff ||| ofBit 12 r.timeout
            ||| ofBit 13 r.sending ||| ofBit 14 r.force ||| ofBit 15 r.paired
        | 0x090 => field r.rxRound 0 32
        | 0x094 => x.rxOk
        | 0x098 => x.codeErr
        | 0x09C => x.wordErr
        | 0x0A0 => x.seqErr
        | 0x0A4 => x.ackMiss
        | 0x0A8 => x.stale
        | _ => 0

/-- PAIR (R419 to R426). -/
def State.readPair (s : State) (o : Nat) : Word :=
  let p := s.pair
  match o with
  | 0x010 => place 32 0 p.partner ||| place 32 16 p.partMode
  | 0x018 => place 32 0 p.stDone ||| place 32 8 p.stFail ||| ofBit 16 (decide (p.badCnt ≠ 0)) ||| place 32 17 p.badCnt
  | 0x01C => p.healthPart
  | 0x020 => place 32 0 p.grant
  | 0x060 => p.wrapCfg
  | 0x064 => p.wrapWin
  | 0x068 => place 32 0 p.wrapLane ||| ofBit 2 p.cycleDone ||| ofBit 3 p.winOpen ||| place 32 16 p.wrapAge
  | _ =>
    if 0x80 ≤ o ∧ o < 0x90 then wordAt (toBytes 16 p.ownDigReg) ((o - 0x80) / 4)
    else if 0x90 ≤ o ∧ o < 0xA0 then wordAt (toBytes 16 p.partDigReg) ((o - 0x90) / 4)
    else
      let a := 0x40060000 + BitVec.ofNat 32 o
      s.mirrorWord a ||| wordFor s.mirror.meas a

/-- PIN_CFG to PIN_FLT of the selected pin (R462, R465, R466). -/
def State.readPin (s : State) (p o : Nat) : Word :=
  let x := s.pin p
  let r := (s.pin (oddPin p)).reading
  let head := s.isChannel p
  match o with
  | 0x064 => s.pinEntry p
  | 0x068 => place 32 0 (if p % 2 = 0 then r.vEven else r.vOdd) ||| if head then place 32 16 r.vEven else 0
  | 0x06C => place 32 0 r.iHigh ||| place 32 16 r.iRet
  | 0x070 =>
    place 32 0 r.elems ||| ofBit 12 (bit s.fio.cmd.a (p - 1)) ||| ofBit 13 (bit s.fio.cmd.b (p - 1)) ||| ofBit 14 (bit s.fio.cmd.c (p - 1))
      ||| ofBit 15 (x.off || (s.fio.groups[(p - 1) / 8]?.map fun (g : GroupSt) => g.held).getD false)
  | 0x074 => place 32 0 x.fault
  | _ => 0

/-- FIO (R461 to R466). -/
def State.readFio (s : State) (o : Nat) : Word :=
  let f := s.fio
  let low := (f.pins.take 8)
  let at_ := fun (a : Nat) (g : PinSt → Word) => ((low[(o - a) / 4]?).map g).getD 0
  if o = 0 then
    ofBit 0 f.fsAlive ||| ofBit 1 f.silent ||| ofBit 2 f.tokens.a.alive ||| ofBit 3 f.tokens.b.alive ||| ofBit 4 f.tokens.c.alive
      ||| ofBit 5 f.snapBad
  else if 0x10 ≤ o ∧ o < 0x28 then
    ((f.groups[(o - 0x10) / 4]?).map fun (g : GroupSt) => place 32 0 g.volt ||| place 32 16 g.curr).getD 0
  else if o = 0x60 then place 32 0 f.pinSel
  else if 0x64 ≤ o ∧ o ≤ 0x74 then (if f.pinSel.toNat = 0 ∨ 48 < f.pinSel.toNat then 0 else s.readPin f.pinSel.toNat o)
  else if o = 0x84 then place 32 0 f.ovf
  else if o = 0x88 then
    ((List.range 8).zip low).foldl (fun (w : Word) (e : Nat × PinSt) => setBit w e.1 e.2.pend) 0
  else if 0xA0 ≤ o ∧ o < 0xC0 then at_ 0xA0 (·.preset)
  else if 0xC0 ≤ o ∧ o < 0xE0 then at_ 0xC0 (·.cntCap)
  else if 0xE0 ≤ o ∧ o < 0x100 then at_ 0xE0 (·.perCap)
  else s.mirrorWord (0x40070000 + BitVec.ofNat 32 o)

/-- The codes of R498 that are never limited. -/
def unlimitedCodes : List Byte :=
  [0x01, 0x02, 0x03, 0x04, 0x05, 0x06, 0x10, 0x11, 0x12, 0x13, 0x20, 0x21, 0x22, 0x23, 0x28, 0x2A, 0x2B, 0x31, 0x32, 0x33, 0x42, 0x48, 0x49,
   0x51, 0x70, 0x78, 0xD0, 0xD1, 0xD2, 0xD3, 0xD4, 0xD5, 0xD6, 0xD7]

/-- REEL (R505, R509 to R512); a position that MRAM has never held reads 0 (log 44). -/
def State.readReel (s : State) (o : Nat) : Word :=
  let r := s.reel
  let k := reelBucket r r.rateSel
  match o with
  | 0x000 =>
    ofBit 0 (!r.full) ||| ofBit 1 r.full ||| ofBit 2 r.almost ||| ofBit 3 r.clearing ||| place 32 4 (BitVec.ofNat 10 r.buffer.length)
  | 0x004 => BitVec.ofNat 32 r.wpos
  | 0x008 => r.base
  | 0x00C => r.lostFull
  | 0x010 => r.bufLost
  | 0x014 => r.suppr
  | 0x020 => place 32 0 r.rdIdx
  | 0x050 => place 32 0 r.rateSel
  | 0x054 =>
    match k with
    | some b => place 32 0 b.rate ||| place 32 8 b.burst
    | none => if unlimitedCodes.contains r.rateSel then 0x12008 else 0x2008
  | 0x058 =>
    match k with
    | some b => place 32 0 b.tokens ||| place 32 8 b.supp
    | none => 0
  | 0x060 => place 32 0 r.clearOut ||| place 32 2 r.carried
  | _ =>
    if 0x24 ≤ o ∧ o < 0x44 then
      match r.mram.find? fun e => decide (e.1 = r.rdIdx.toNat) with
      | some e => wordAt (recordBytes e.2 ++ toBytes 4 e.2.check) ((o - 0x24) / 4)
      | none => 0
    else 0

/-- The codes of the staging states (R515). -/
def StageState.code : StageState → BitVec 2
  | .empty => 0
  | .receiving => 1
  | .staged => 2
  | .inUse => 3

/-- The codes of the activation phases (R534). -/
def ActPhase.code : ActPhase → BitVec 3
  | .none => 0
  | .preparing => 1
  | .ready => 2
  | .commit => 3
  | .aborted => 4
  | .done => 5
  | .rolling => 6

/-- STG (R532 to R535). -/
def State.readStg (s : State) (o : Nat) : Word :=
  let g := s.stg
  let m := g.manifest
  let held := decide (g.state ≠ .empty)
  let owner := (g.owner.map Source.digest).getD 0
  match o with
  | 0x000 =>
    place 32 0 g.state.code ||| ofBit 2 (decide (g.owner = some .service)) ||| (if held then place 32 8 (manKind m) else 0)
      ||| place 32 16 (field owner 32 16)
  | 0x004 => if held then manImageId m else 0
  | 0x008 => if held then manVersion m else 0
  | 0x00C => if held then BitVec.ofNat 32 g.blocks.length ||| place 32 16 (BitVec.ofNat 9 (manBlocks m)) else 0
  | 0x020 => place 32 0 g.phase.code ||| place 32 3 g.kind ||| place 32 8 g.cause
  | 0x024 => field g.round 0 32
  | 0x028 => place 32 0 (field g.round 32 8)
  | 0x030 => ofBit 0 g.copyOpen ||| ofBit 1 (g.copyOpen && g.copyStation) ||| ofBit 2 g.resumed ||| place 32 16 (BitVec.ofNat 9 g.copyNext)
  | 0x034 =>
    place 32 0 (BitVec.ofNat 5 (g.station.filter fun (i : Image) => decide (manKind i.manifest = 3)).length)
      ||| place 32 16 (BitVec.ofNat 11 ((g.station.map fun (i : Image) => blocksFor (i.manifest.length) + i.blocks.length).sum))
  | _ => if 0x10 ≤ o ∧ o < 0x20 ∧ held then wordAt (toBytes 16 (digest16 m)) ((o - 0x10) / 4) else 0

/-- EVT_TOP (R554): the pending and enabled source of the highest priority, the lowest number among equals. -/
def evtTop (e : EvtSt) : Option (Nat × BitVec 3) :=
  (List.range 256).foldl (fun a i =>
    let p : BitVec 3 := field e.prio (4 * i) 3
    let better : Bool := match a with
      | some b => decide (b.2.toNat < p.toNat)
      | none => true
    if bit e.pend i ∧ bit e.en i ∧ p ≠ 0 ∧ better then some (i, p) else a) none

/-- The coordinator interrupt is asserted (R554). -/
def evtIrq (e : EvtSt) : Bool :=
  match evtTop e with
  | some t => decide (e.thresh.toNat < t.2.toNat)
  | none => false

/-- EVT (R562). -/
def State.readEvt (s : State) (o : Nat) : Word :=
  let e := s.evt
  if o < 0x20 then field e.en (8 * o) 32
  else if o < 0x40 then field e.pend (8 * (o - 0x20)) 32
  else if o < 0xC0 then field e.prio (8 * (o - 0x40)) 32
  else if o = 0xC0 then
    match evtTop e with
    | some t => BitVec.ofNat 32 t.1 ||| place 32 8 t.2 ||| ofBit 31 true
    | none => 0
  else if o = 0xC4 then place 32 0 e.thresh
  else if o = 0xD0 then e.merged
  else 0

/-- MBX (R558 to R560). -/
def State.readMbx (s : State) (o : Nat) : Word :=
  let i := o % 0x80 / 4
  if o < 0x200 then
    let k := o / 0x80
    let b := s.bcBox k
    if i < 16 then b.words.getD i 0
    else if i = 16 then
      LaneId.all.foldl (fun (w : Word) l => w ||| ofBit (8 + l.num) ((s.lane l).copyOf k).full) (place 32 0 b.len)
        ||| ofBit 11 b.wake ||| place 32 16 b.mstat
    else 0
  else if o < 0x800 then
    let k := (o - 0x200) / 0x80
    let b := (s.lane (LaneId.ofNum (k / 4))).boxOf (k % 4)
    if i < 16 then b.words.getD i 0 else if i = 16 then place 32 0 b.len ||| ofBit 5 b.full else 0
  else
    match o with
    | 0x804 => s.mbx.disagree
    | 0x808 => s.mbx.drops
    | 0x80C => s.mbx.coordRst
    | _ => 0

/-- SEM (R555, R563): the value that a read by master `m` returns; the read itself acquires as `State.lockRead` says. -/
def State.readSem (s : State) (m : BitVec 3) (o : Nat) : Word :=
  let holder := fun (i : Nat) => s.locks.getD i none
  if o < 0x80 then
    match holder (o / 4) with
    | some h => if h = m then 0 else place 32 0 h + 1
    | none => 0
  else if 0x100 ≤ o ∧ o < 0x110 then
    (List.range 8).foldl (fun (w : Word) j =>
      match holder (8 * ((o - 0x100) / 4) + j) with
      | some h => w ||| place 32 (4 * j) h ||| ofBit (4 * j + 3) true
      | none => w) 0
  else 0

/-- PMC (R599, R602 to R605); the reads of PMC_VAL_LO and PMC_FRZ_LO capture as `State.pmcRead` and `State.frzRead` say. -/
def State.readPmc (s : State) (o : Nat) : Word :=
  let p := s.pmc
  match o with
  | 0x000 => ofBit 0 p.freeze ||| ofBit 1 p.onCut ||| ofBit 2 p.onWrap ||| ofBit 4 p.seqIrq
  | 0x004 =>
    LaneId.all.foldl (fun (w : Word) l => w ||| ofBit (3 + l.num) (!(s.lane l).stat.domainOn))
      (ofBit 0 p.frozen ||| place 32 1 p.cause ||| place 32 6 p.lastWrap)
  | 0x00C => field p.frzTime 0 32
  | 0x010 => p.frzHi
  | 0x020 => place 32 0 p.sel
  | 0x024 => ((s.selected).map fun e => e.2.cfg).getD 0
  | 0x028 => ((s.selected).map fun e => field e.2.val 0 32).getD 0
  | 0x02C => place 32 0 p.valHi
  | 0x030 => place 32 0 p.presetHi
  | 0x060 => p.base0
  | 0x064 => p.lim0
  | 0x068 => p.base1
  | 0x06C => p.lim1
  | 0x070 => s.laneA.sample
  | 0x074 => s.laneB.sample
  | 0x078 => s.laneC.sample
  | _ => if 0x40 ≤ o ∧ o < 0x60 then field p.wraps (8 * (o - 0x40)) 32 else 0

/-- The last run of the selected slice (R580, R585). -/
def State.sliceRun (s : State) : Option SliceRun :=
  let n := (field s.wrap.sel 0 8).toNat
  let runs := if n < 64 then (s.lane (LaneId.ofNum (field s.wrap.sel 8 2).toNat)).wrap.runs else s.wrap.runs
  (runs.find? fun e => decide (e.1 = n)).map (·.2)

/-- WRAP (R580 to R585). -/
def State.readWrap (s : State) (o : Nat) : Word :=
  let w := s.wrap
  let n := (field w.sel 0 8).toNat
  let fails := fun (l : Lane) => place 32 0 l.wrap.failed ||| place 32 8 l.wrap.failCnt ||| place 32 16 l.store.passes
  match o with
  | 0x000 =>
    if w.running then
      ofBit 0 true ||| ofBit 1 (decide (w.why ≠ .lane)) ||| place 32 2 (if w.why = .lane then BitVec.ofNat 2 w.lane.num else 3)
        ||| place 32 4 (BitVec.ofNat 8 w.slice)
    else 0
  | 0x004 =>
    LaneId.all.foldl (fun (x : Word) l => x ||| place 32 (4 + 2 * l.num) (s.lane l).wrap.verdict)
      (place 32 0 w.module ||| ofBit 2 w.moduleOk ||| ofBit 3 w.nvFail)
  | 0x008 => fails s.laneA
  | 0x00C => fails s.laneB
  | 0x010 => fails s.laneC
  | 0x014 => place 32 0 w.data ||| place 32 16 w.chk
  | 0x020 => place 32 0 w.sel
  | 0x024 =>
    match s.sliceRun with
    | some r =>
      let complete := decide (r.patterns = Config.terminalCount n)
      let same := decide (r.sig = Config.refSignature n)
      ofBit 0 true ||| ofBit 1 complete ||| ofBit 2 same ||| ofBit 3 (slicePasses n r) ||| place 32 8 r.patterns
    | none => 0
  | 0x028 => ((s.sliceRun).map fun r => field r.sig 32 32).getD 0
  | 0x02C => ((s.sliceRun).map fun r => field r.sig 0 32).getD 0
  | _ => 0

/-- PWR (R629 to R633). -/
def State.readPwr (s : State) (o : Nat) : Word :=
  let p := s.pwr
  match o with
  | 0x000 =>
    ((List.range 4).zip s.voice.keys).foldl (fun (w : Word) (e : Nat × Option (BitVec 256)) => w ||| ofBit (5 + e.1) e.2.isSome)
      (ofBit 0 p.feedAOk ||| ofBit 1 p.feedBOk ||| ofBit 2 p.holdupOk ||| ofBit 3 p.intruded ||| ofBit 4 p.enrolOpen)
  | 0x004 => p.feedA
  | 0x008 => p.feedB
  | 0x00C => place 32 0 p.time ||| place 32 12 p.vcap ||| ofBit 31 p.measured
  | 0x040 => ofBit 0 p.standinEn
  | 0x044 => place 32 0 s.lines ||| place 32 4 s.lineSense ||| ofBit 8 p.cue
  | 0x048 => p.dips
  | 0x04C => p.fails
  | _ =>
    if 0x10 ≤ o ∧ o < 0x1C then
      let l := s.lane (LaneId.ofNum ((o - 0x10) / 4))
      place 32 0 (if l.stat.domainOn then l.rails else 0) ||| ofBit 4 l.thermal ||| place 32 16 l.railCnt
    else if 0x20 ≤ o ∧ o < 0x38 then
      ((p.temps[(o - 0x20) / 4]?).map fun t => place 32 0 t.1 ||| place 32 16 t.2).getD 0
    else 0

/-- The bus admits a read (R15, R21): a whole word, aligned, within the blocks. -/
def readOk (a : Word) (size : BitVec 4) : Bool :=
  decide (size = 4) && decide (field a 0 2 = 0#2) && decide (field a 20 12 = 0x400#12)

/-- What a register shows to master `m` (R16 to R21): WO, RSV and undefined offsets read 0, and a read that has an effect has its row. -/
def State.readReg (s : State) (m : BitVec 3) (a : Word) : Word :=
  let r := regPlace a
  match flagRegister r.1 r.2 with
  | some b => s.flags.get b
  | none =>
    match r.1 with
    | 0 => s.readSys r.2
    | 1 => s.readTake r.2
    | 2 => s.readLane r.2
    | 3 => s.readFab r.2
    | 4 => s.readNet r.2
    | 5 => s.readSes r.2
    | 6 => s.readPair r.2
    | 7 => s.readFio r.2
    | 8 => s.readReel r.2
    | 9 => s.readStg r.2
    | 10 => s.readEvt r.2
    | 11 => s.readMbx r.2
    | 12 => s.readSem m r.2
    | 13 => s.readPmc r.2
    | 14 => s.readWrap r.2
    | _ => s.readPwr r.2

/-- What the bus answers to a read of `size` bytes by master `m` (R15, R21, R538): the value of the register, or a bus error. A bus without a
master or without supply stands idle, and a lane is answered with an error while the coordinator restarts, as in `State.access`. -/
def State.busRead (s : State) (m : BitVec 3) (a : Word) (size : BitVec 4) : Bus :=
  if ¬ s.supplied ∨ m = 7 ∨ (m = 0 ∧ s.mbx.restarting) then .idle
  else if readOk a size ∧ ¬ (s.mbx.restarting ∧ 4 ≤ m.toNat) then .data (s.readReg m a)
  else .error

end Sys2Proof.Machine
end

