-- ==== Sys2Proof/Machine/Scrub.lean ====
section
/-! DEFINITION. The scrub of the configuration memory (R96 to R100): codewords in their order, corrections, uncorrectable codewords,
latch repairs, the readback digest at the end of a visit, and the meaning of SCRUB_STEP. -/

namespace Sys2Proof.Machine

open Sys2Proof

/-- A codeword of a visit: its address, whether its plane is active, and the physical address of the tile whose configuration it
completes. -/
structure ScrubCw where
  addr   : Nat
  active : Bool
  rt     : Bool
  tile   : Option Elem

/-- Codeword `n` of the visit of region `r` (R97): configuration of plane 0 and plane 1, then route table of plane 0 and plane 1.
The order is DEDUCED (log 25). -/
def scrubAt (g : RegionState) (r n : Nat) : ScrubCw :=
  if n < 1024 then
    let p := decide (512 ≤ n)
    let t := 256 * r + n % 512 / 2
    { addr := cfgAddr p t (n % 2), active := activePlane g r == p, rt := false,
      tile := if n % 2 = 1 then some (BitVec.ofNat 12 t) else none }
  else
    let p := decide (1280 ≤ n)
    { addr := rtAddr p (256 * r + n % 256), active := g.rtActive == p, rt := true, tile := none }

/-- A SCRUB record of a lane (R498). -/
def Lane.scrubRecord (l : Lane) (id : LaneId) (r n : Nat) (kind : Byte) : Lane :=
  l.submit 0x30 ([BitVec.ofNat 8 id.num, BitVec.ofNat 8 r, kind] ++ toBytes 2 (BitVec.ofNat 16 n))

/-- What a scrubbed codeword makes known beside the lane's own counts. -/
structure ScrubRep where
  corr   : Bool
  uncorr : Bool
  latch  : Bool
  lost   : Bool
  shadow : Bool
  deriving DecidableEq, Repr

/-- Nothing to make known. -/
def ScrubRep.none : ScrubRep := { corr := false, uncorr := false, latch := false, lost := false, shadow := false }

/-- The latches of the tile at an address reload from a configuration. Latches that hold 0 stand for no tile. -/
def reloadLatch (l : List Tile) (a : Elem) (c : TileCfg) : List Tile :=
  if c = 0 then l.filter fun u => decide (u.addr ≠ a)
  else
    match tileAt l a with
    | some t => tileInsert { t with cfg := c } l
    | none => tileInsert (freshTile a c) l

/-- The latches of a tile are compared with its active plane and reloaded where they differ (R98). -/
def Lane.repairLatch (l : Lane) (id : LaneId) (r n : Nat) (a : Elem) : Lane × Bool :=
  let c := l.cfgAt 0 a
  if ((tileAt l.fab.tiles a).map (·.cfg)).getD 0 = c then (l, false)
  else
    let l := l.onFab fun f => { f with tiles := reloadLatch f.tiles a c }
    (({ l with mem := { l.mem with latchRep := satInc l.mem.latchRep } }).scrubRecord id r n 2, true)

/-- One codeword (R96, R98, R99). A bad one in a shadow plane under check ends the check with SHADOW_INVALID (R278). -/
def Lane.scrubOne (l : Lane) (id : LaneId) (r n : Nat) : Lane × ScrubRep :=
  let g := l.vit.reg
  let k := scrubAt g r n
  match rsDecode (memLoad l.mem.cells k.addr 36) with
  | .ok w d c =>
    let fix := decide (d + c ≠ 0)
    let l := if fix then { l with mem := { l.mem with
        cells := memStore l.mem.cells k.addr w, corr := satAdd l.mem.corr d, chkRep := satAdd l.mem.chkRep c } } else l
    let l := if d ≠ 0 then l.scrubRecord id r n 0 else l
    let l := if c ≠ 0 then l.scrubRecord id r n 1 else l
    let (l, latch) := match k.tile with
      | some a => if k.active then l.repairLatch id r n a else (l, false)
      | .none => (l, false)
    (l, { ScrubRep.none with corr := fix, latch := latch })
  | .uncorrectable =>
    let l := ({ l with mem := { l.mem with uncorr := satInc l.mem.uncorr } }).scrubRecord id r n 3
    if k.active then (l, { ScrubRep.none with uncorr := true, lost := true })
    else
      let pending := decide (g.stage = .loading ∨ g.stage = .checked ∨ g.stage = .scheduled) && (k.rt || bit g.spliceSet r)
      let l := l.onReg fun g => { g with shadow := setBit g.shadow r (bit g.shadow r && k.rt), rtShadow := g.rtShadow && !k.rt }
      let l := if pending then (l.reason 0 0x0E 2 0).spliceFail 0
        else if l.checksShadow then { l with check := none }.reason 0 0x0E 2 0 else l
      (l, { ScrubRep.none with uncorr := true, shadow := true })

/-- The visit moves on past codeword `n`; with its last codeword the region readback digest stands (R100) where the lane has scrubbed
all 1,536, and the next region is to come. -/
def LaneMem.advance (m : LaneMem) (n : Nat) (take : Word) (digest : Unit → BitVec 64) : LaneMem :=
  let m := { m with scrubTake := some take, scrubCw := n + 1 }
  if n + 1 < 1536 then m
  else
    let r := m.scrubReg
    let m := { m with scrubReg := r + 1, scrubCw := 0 }
    if m.scrubAll then
      { m with rdig := m.rdig.filter (fun e => decide (e.1 ≠ r)) ++ [(r, digest ())], rdigTake := some take }
    else m

/-- Several codewords in order, up to codeword `stop`; a codeword lost in an active plane ends the work. -/
def Lane.scrubMany (id : LaneId) (r stop : Nat) : Nat → Lane → ScrubRep → Nat → Lane × ScrubRep × Nat
  | 0, l, a, n => (l, a, n)
  | k + 1, l, a, n =>
    if l.mem.scrubReg.toNat ≠ r ∨ stop ≤ l.mem.scrubCw then (l, a, n)
    else
      let c := l.mem.scrubCw
      let (l, b) := l.scrubOne id r c
      let a : ScrubRep := { corr := a.corr || b.corr, uncorr := a.uncorr || b.uncorr, latch := a.latch || b.latch,
                            lost := a.lost || b.lost, shadow := a.shadow || b.shadow }
      let l := { l with mem := l.mem.advance c l.vit.hdr.takeNum fun _ => l.readback id r }
      if a.lost then (l, a, n + 1) else Lane.scrubMany id r stop k l a (n + 1)

/-- Where the scrub stands as its first codewords of take `t` come: each take of a visit has its own 384 codewords (R97). What a lane
has left over of an earlier take, being out of voting or short of idle time, it does not catch up, and its visit gives no digest.
DESIGN CHOICE (log 110). -/
def LaneMem.enterTake (m : LaneMem) (t : Word) : LaneMem :=
  let k := t.toNat % 64
  let r : Region := BitVec.ofNat 4 (k / 4)
  let first := 384 * (k % 4)
  if m.scrubTake = some t then m
  else
    { m with
      scrubAll := decide (first = 0) ||
        (m.scrubAll && decide (m.scrubTake = some (t - 1)) && decide (m.scrubReg = r ∧ m.scrubCw = first))
      scrubReg := r, scrubCw := first }

/-- SCRUB_STEP (R97 to R100): the next `count` codewords of the visit, of the 384 of this take, in idle time or in the boundary
work. -/
def execScrubStep (lane : LaneId) (count : Nat) (s : State) : Answer :=
  let x := s.lane lane
  if ¬ (s.takesRun ∧ x.evaluates ∧ ¬ x.fab.running) then .next s
  else
    let k := s.take.num.toNat % 64
    let r := k / 4
    let x := { x with mem := x.mem.enterTake s.take.num }
    let (x, rep, done) := Lane.scrubMany lane r (384 * (k % 4 + 1)) (min count 384) x ScrubRep.none 0
    let before := s.voice.vit.outcomes
    let s := s.setLane lane x
    let s := s.countN (64 * lane.num + 4 * r) 4 { code := 0x06, level := none, master := none, addr := none } done
    let s := ((s.raiseIf rep.corr .scrub lane.num).raiseIf rep.uncorr .scrub (4 + lane.num)).raiseIf rep.latch .scrub (8 + lane.num)
    let s := if rep.shadow ∧ s.stg.service ≠ .none then { s with stg := { s.stg with service := .failed } } else s
    let s := if rep.shadow ∧ s.take.point = .deadline ∧ s.voice.vit.outcomes ≠ before then s.latchReason else s
    let s := if rep.shadow then s.freeStaging else s
    .next (if rep.lost then s.excludeLane lane 0x06 243 else s)

end Sys2Proof.Machine
end

