-- ==== Sys2Proof/Machine/Dispatch.lean ====
section
/-! DEFINITION. The meaning of each command: one arm for each constructor of `Instr`, in the order of the table of operations
and events. -/

namespace Sys2Proof.Machine

open Sys2Proof

/-- The effect of a command on everything but the queue. -/
def exec (i : Instr) (s : State) : Host.Outcome State Fault Refusal :=
  match i with
  | .takeStart round marked => Sys2Proof.Machine.execTakeStart round marked s
  | .rushes => Sys2Proof.Machine.execRushes s
  | .waveStep lane ns => Sys2Proof.Machine.execWaveStep lane ns s
  | .trackClearDelayExpiry elem => Sys2Proof.Machine.execTrackClearDelayExpiry elem s
  | .berthDelayExpiry elem => Sys2Proof.Machine.execBerthDelayExpiry elem s
  | .pointMoveTimeout elem => Sys2Proof.Machine.execPointMoveTimeout elem s
  | .proveGraceExpiry elem => Sys2Proof.Machine.execProveGraceExpiry elem s
  | .closeSupervisionExpiry elem => Sys2Proof.Machine.execCloseSupervisionExpiry elem s
  | .permissionDelayExpiry elem => Sys2Proof.Machine.execPermissionDelayExpiry elem s
  | .approachLockingExpiry elem => Sys2Proof.Machine.execApproachLockingExpiry elem s
  | .erlExpiry route => Sys2Proof.Machine.execErlExpiry route s
  | .erlWindowLapse route => Sys2Proof.Machine.execErlWindowLapse route s
  | .exchangePoint => Sys2Proof.Machine.execExchangePoint s
  | .latchPoint => Sys2Proof.Machine.execLatchPoint s
  | .deadline => Sys2Proof.Machine.execDeadline s
  | .boundaryPoint incomplete => Sys2Proof.Machine.execBoundaryPoint incomplete s
  | .scrubStep lane count => Sys2Proof.Machine.execScrubStep lane count s
  | .routeRequest route => Sys2Proof.Machine.execRouteRequest route s
  | .cancel route => Sys2Proof.Machine.execCancel route s
  | .pointCallNormal elem => Sys2Proof.Machine.execPointCallNormal elem s
  | .pointCallReverse elem => Sys2Proof.Machine.execPointCallReverse elem s
  | .doorRelease elem => Sys2Proof.Machine.execDoorRelease elem s
  | .doorClose elem => Sys2Proof.Machine.execDoorClose elem s
  | .plungerReset elem => Sys2Proof.Machine.execPlungerReset elem s
  | .erlArm route => Sys2Proof.Machine.execErlArm route s
  | .erlExec route => Sys2Proof.Machine.execErlExec route s
  | .regionEn region => Sys2Proof.Machine.execRegionEn region s
  | .regionDis region => Sys2Proof.Machine.execRegionDis region s
  | .sessionEn ses => Sys2Proof.Machine.execSessionEn ses s
  | .sessionDis ses => Sys2Proof.Machine.execSessionDis ses s
  | .groupEn group => Sys2Proof.Machine.execGroupEn group s
  | .groupDis group => Sys2Proof.Machine.execGroupDis group s
  | .checkSlice => Sys2Proof.Machine.execCheckSlice s
  | .spliceBar set => Sys2Proof.Machine.execSpliceBar set s
  | .spliceLoad => Sys2Proof.Machine.execSpliceLoad s
  | .shadowLoad lane => Sys2Proof.Machine.execShadowLoad lane s
  | .spliceSchedule take => Sys2Proof.Machine.execSpliceSchedule take s
  | .spliceAbort => Sys2Proof.Machine.execSpliceAbort s
  | .spliceCommit => Sys2Proof.Machine.execSpliceCommit s
  | .spliceSettled => Sys2Proof.Machine.execSpliceSettled s
  | .modeVital => Sys2Proof.Machine.execModeVital s
  | .modeCommission => Sys2Proof.Machine.execModeCommission s
  | .forceSet entry => Sys2Proof.Machine.execForceSet entry s
  | .blockSet entry => Sys2Proof.Machine.execBlockSet entry s
  | .forceClear entry => Sys2Proof.Machine.execForceClear entry s
  | .laneReset lane => Sys2Proof.Machine.execLaneReset lane s
  | .laneWrap lane => Sys2Proof.Machine.execLaneWrap lane s
  | .restart => Sys2Proof.Machine.execRestart s
  | .areaNotice digest => Sys2Proof.Machine.execAreaNotice digest s
  | .lockstepBreak lane => Sys2Proof.Machine.execLockstepBreak lane s
  | .debugRequest lane => Sys2Proof.Machine.execDebugRequest lane s
  | .laneRecoveryReady lane => Sys2Proof.Machine.execLaneRecoveryReady lane s
  | .frameReceive ring rev slot ofs frame => Sys2Proof.Machine.execFrameReceive ring rev slot ofs frame s
  | .frameSend slot => Sys2Proof.Machine.execFrameSend slot s
  | .payloadDeadline ses late => Sys2Proof.Machine.execPayloadDeadline ses late s
  | .timingSet ring outPort path hold flags crc rtt => Sys2Proof.Machine.execTimingSet ring outPort path hold flags crc rtt s
  | .hopLost ring outPort => Sys2Proof.Machine.execHopLost ring outPort s
  | .fallSilent => Sys2Proof.Machine.execFallSilent s
  | .terminationEnd => Sys2Proof.Machine.execTerminationEnd s
  | .coldListenEnd => Sys2Proof.Machine.execColdListenEnd s
  | .backoffEnd => Sys2Proof.Machine.execBackoffEnd s
  | .starter => Sys2Proof.Machine.execStarter s
  | .sesRx => Sys2Proof.Machine.execSesRx s
  | .checkStart lane rx => Sys2Proof.Machine.execCheckStart lane rx s
  | .checkFeed lane rx size value => Sys2Proof.Machine.execCheckFeed lane rx size value s
  | .checkResult lane rx => Sys2Proof.Machine.execCheckResult lane rx s
  | .heartbeat node mode rxUp valid => Sys2Proof.Machine.execHeartbeat node mode rxUp valid s
  | .pairLinkDown => Sys2Proof.Machine.execPairLinkDown s
  | .pairLinkUp => Sys2Proof.Machine.execPairLinkUp s
  | .digest src node take claim digest valid => Sys2Proof.Machine.execDigest src node take claim digest valid s
  | .agree take digest valid => Sys2Proof.Machine.execAgree take digest valid s
  | .health src payload => Sys2Proof.Machine.execHealth src payload s
  | .tlen len valid => Sys2Proof.Machine.execTlen len valid s
  | .demote node valid => Sys2Proof.Machine.execDemote node valid s
  | .resign node valid => Sys2Proof.Machine.execResign node valid s
  | .leadResignTimeout => Sys2Proof.Machine.execLeadResignTimeout s
  | .equal vital digest valid => Sys2Proof.Machine.execEqual vital digest valid s
  | .partnerLost => Sys2Proof.Machine.execPartnerLost s
  | .witnessBroadcast payload => Sys2Proof.Machine.execWitnessBroadcast payload s
  | .witnessDecide storeOk => Sys2Proof.Machine.execWitnessDecide storeOk s
  | .witnessLost => Sys2Proof.Machine.execWitnessLost s
  | .selfTest test pass => Sys2Proof.Machine.execSelfTest test pass s
  | .wrapStartDecision => Sys2Proof.Machine.execWrapStartDecision s
  | .standinTimeout => Sys2Proof.Machine.execStandinTimeout s
  | .cueEdge => Sys2Proof.Machine.execCueEdge s
  | .fieldSnapshot good => Sys2Proof.Machine.execFieldSnapshot good s
  | .fieldReadback readings supplies => Sys2Proof.Machine.execFieldReadback readings supplies s
  | .overcurrent pin => Sys2Proof.Machine.execOvercurrent pin s
  | .shortLoad pin => Sys2Proof.Machine.execShortLoad pin s
  | .groupOverload group => Sys2Proof.Machine.execGroupOverload group s
  | .detectorProof failed groups => Sys2Proof.Machine.execDetectorProof failed groups s
  | .offChannelProbe pin result => Sys2Proof.Machine.execOffChannelProbe pin result s
  | .groupSag group => Sys2Proof.Machine.execGroupSag group s
  | .sagRecover group => Sys2Proof.Machine.execSagRecover group s
  | .filteredInputChange pin y level => Sys2Proof.Machine.execFilteredInputChange pin y level s
  | .periodMeasure pin time => Sys2Proof.Machine.execPeriodMeasure pin time s
  | .periodTimeout pin => Sys2Proof.Machine.execPeriodTimeout pin s
  | .cntSnap => Sys2Proof.Machine.execCntSnap s
  | .cntPreset n value => Sys2Proof.Machine.execCntPreset n value s
  | .refreshToken lane count crcOk => Sys2Proof.Machine.execRefreshToken lane count crcOk s
  | .refreshSilence lane => Sys2Proof.Machine.execRefreshSilence lane s
  | .refreshResume => Sys2Proof.Machine.execRefreshResume s
  | .powerOn => Sys2Proof.Machine.execPowerOn s
  | .reloadDone => Sys2Proof.Machine.execReloadDone s
  | .verifyComplete => Sys2Proof.Machine.execVerifyComplete s
  | .cutRestart => Sys2Proof.Machine.execCutRestart s
  | .restartSettleEnd => Sys2Proof.Machine.execRestartSettleEnd s
  | .rateTokenRefill code => Sys2Proof.Machine.execRateTokenRefill code s
  | .dailies day => Sys2Proof.Machine.execDailies day s
  | .reelClear readTo digest => Sys2Proof.Machine.execReelClear readTo digest s
  | .reelRead first count => Sys2Proof.Machine.execReelRead first count s
  | .rateCfgWrite value => Sys2Proof.Machine.execRateCfgWrite value s
  | .stageOpen src manifest => Sys2Proof.Machine.execStageOpen src manifest s
  | .stageBlock src n data => Sys2Proof.Machine.execStageBlock src n data s
  | .stageClose src => Sys2Proof.Machine.execStageClose src s
  | .stageDiscard src authorised => Sys2Proof.Machine.execStageDiscard src authorised s
  | .stagingLapse => Sys2Proof.Machine.execStagingLapse s
  | .copyBlock readable => Sys2Proof.Machine.execCopyBlock readable s
  | .actSchedule round digest => Sys2Proof.Machine.execActSchedule round digest s
  | .actCancel => Sys2Proof.Machine.execActCancel s
  | .actLocal => Sys2Proof.Machine.execActLocal s
  | .actReq digest round kind parts => Sys2Proof.Machine.execActReq digest round kind parts s
  | .prepare digest round kind parts => Sys2Proof.Machine.execPrepare digest round kind parts s
  | .actReady node digest => Sys2Proof.Machine.execActReady node digest s
  | .actRefuse node digest cause => Sys2Proof.Machine.execActRefuse node digest cause s
  | .actCommit digest => Sys2Proof.Machine.execActCommit digest s
  | .actAbort digest cause => Sys2Proof.Machine.execActAbort digest cause s
  | .actDeadline => Sys2Proof.Machine.execActDeadline s
  | .noDecisionAbort => Sys2Proof.Machine.execNoDecisionAbort s
  | .serviceCommit => Sys2Proof.Machine.execServiceCommit s
  | .actRoundReached => Sys2Proof.Machine.execActRoundReached s
  | .rollResign => Sys2Proof.Machine.execRollResign s
  | .rollWitnessRestart => Sys2Proof.Machine.execRollWitnessRestart s
  | .rollHalted => Sys2Proof.Machine.execRollHalted s
  | .mailboxGo master k len => Sys2Proof.Machine.execMailboxGo master k len s
  | .wakePowerOff lane => Sys2Proof.Machine.execWakePowerOff lane s
  | .mailboxCompare => Sys2Proof.Machine.execMailboxCompare s
  | .laneMessage lane m words => Sys2Proof.Machine.execLaneMessage lane m words s
  | .laneMailboxRead lane m => Sys2Proof.Machine.execLaneMailboxRead lane m s
  | .coordWatchdog => Sys2Proof.Machine.execCoordWatchdog s
  | .coordRestartDone => Sys2Proof.Machine.execCoordRestartDone s
  | .evtSwset value => Sys2Proof.Machine.execEvtSwset value s
  | .semLockRead master lock => Sys2Proof.Machine.execSemLockRead master lock s
  | .semLockWrite master lock value => Sys2Proof.Machine.execSemLockWrite master lock value s
  | .semForce master value => Sys2Proof.Machine.execSemForce master value s
  | .wrapSliceEnd a b c => Sys2Proof.Machine.execWrapSliceEnd a b c s
  | .pmcCfgWrite value => Sys2Proof.Machine.execPmcCfgWrite value s
  | .pmcFreeze value => Sys2Proof.Machine.execPmcFreeze value s
  | .pmcRelease value => Sys2Proof.Machine.execPmcRelease value s
  | .pmcFrozen => Sys2Proof.Machine.execPmcFrozen s
  | .pmcClear => Sys2Proof.Machine.execPmcClear s
  | .pmcPreset value => Sys2Proof.Machine.execPmcPreset value s
  | .pmcValRead => Sys2Proof.Machine.execPmcValRead s
  | .pmcFrzRead => Sys2Proof.Machine.execPmcFrzRead s
  | .takeStartRead => Sys2Proof.Machine.execTakeStartRead s
  | .marginLowClr value => Sys2Proof.Machine.execMarginLowClr value s
  | .wrapWinWrite value => Sys2Proof.Machine.execWrapWinWrite value s
  | .registerWrite master addr size value => Sys2Proof.Machine.execRegisterWrite master addr size value s
  | .feedLost feedB => Sys2Proof.Machine.execFeedLost feedB s
  | .feedRestored feedB => Sys2Proof.Machine.execFeedRestored feedB s
  | .powerFail => Sys2Proof.Machine.execPowerFail s
  | .supplyDip => Sys2Proof.Machine.execSupplyDip s
  | .holdupMeasure time vcap => Sys2Proof.Machine.execHoldupMeasure time vcap s
  | .railOut lane inWin => Sys2Proof.Machine.execRailOut lane inWin s
  | .railRecover lane => Sys2Proof.Machine.execRailRecover lane s
  | .thermalShutdown lane => Sys2Proof.Machine.execThermalShutdown lane s
  | .thermalRestart lane => Sys2Proof.Machine.execThermalRestart lane s
  | .tempHigh sensor reading => Sys2Proof.Machine.execTempHigh sensor reading s
  | .lineMismatch sense => Sys2Proof.Machine.execLineMismatch sense s
  | .intrusion => Sys2Proof.Machine.execIntrusion s
  | .enrolSwitch => Sys2Proof.Machine.execEnrolSwitch s
  | .enrolClose => Sys2Proof.Machine.execEnrolClose s
  | .enrolKeygen => Sys2Proof.Machine.execEnrolKeygen s
  | .enrolCert cert => Sys2Proof.Machine.execEnrolCert cert s
  | .enrolKeyslot k key agree => Sys2Proof.Machine.execEnrolKeyslot k key agree s
  | .tlsOpen cp2 hello => Sys2Proof.Machine.execTlsOpen cp2 hello s
  | .sessionIdleClose sid => Sys2Proof.Machine.execSessionIdleClose sid s
  | .batch sid msgId items => Sys2Proof.Machine.execBatch sid msgId items s
  | .propose sid msgId msg => Sys2Proof.Machine.execPropose sid msgId msg s
  | .confirm sid msgId digest => Sys2Proof.Machine.execConfirm sid msgId digest s
  | .proposalLapse digest => Sys2Proof.Machine.execProposalLapse digest s
  | .tunnelRelay client role msg => Sys2Proof.Machine.execTunnelRelay client role msg s
  | .orderPoint => Sys2Proof.Machine.execOrderPoint s
  | .orderList claim msgs => Sys2Proof.Machine.execOrderList claim msgs s
  | .snapshotReq sid msgId => Sys2Proof.Machine.execSnapshotReq sid msgId s
  | .timeReq sid msgId => Sys2Proof.Machine.execTimeReq sid msgId s
  | .ptpSync cp2 domain rank offset utcOffset utc => Sys2Proof.Machine.execPtpSync cp2 domain rank offset utcOffset utc s
  | .utcUnlock => Sys2Proof.Machine.execUtcUnlock s
  | .serviceLinkDrop => Sys2Proof.Machine.execServiceLinkDrop s
  | .filterTick pin x y => Sys2Proof.Machine.execFilterTick pin x y s
  | .holdupCharged => Sys2Proof.Machine.execHoldupCharged s
  | .reelClearDone => Sys2Proof.Machine.execReelClearDone s
  | .reelFlushDone => Sys2Proof.Machine.execReelFlushDone s
  | .debugDetach lane => Sys2Proof.Machine.execDebugDetach lane s
  | .coordinatorRailOut => Sys2Proof.Machine.execCoordinatorRailOut s
  | .slateMissed => Sys2Proof.Machine.execSlateMissed s
  | .wrapWindowClose => Sys2Proof.Machine.execWrapWindowClose s
  | .tlsSessionClose sid => Sys2Proof.Machine.execTlsSessionClose sid s

end Sys2Proof.Machine
end

