-- ==== Sys2Proof/Safety.lean ====
section
/-! DEFINITION. The terms in which statements are made: the canonical form of the memories, and what a command leaves as it was. -/

namespace Sys2Proof.Machine

open Sys2Proof

/-- The memory of every lane keeps its canonical form. -/
def State.memSafe (s : State) : Bool := memWf s.laneA.mem.cells && memWf s.laneB.mem.cells && memWf s.laneC.mem.cells

/-- `t` is `s` but for sticky flags, the event controller, the performance counters and the Reel: the notices that a command may leave
beside its effect. -/
def State.noticed (s t : State) : Prop :=
  ∃ (f : FlagRegs) (e : EvtSt) (p : PmcSt) (r : ReelSt), t = { s with flags := f, evt := e, pmc := p, reel := r }

/-- `t` is `s` but for the three lanes. -/
def State.lanesOnly (s t : State) : Prop := ∃ a b c : Lane, t = { s with laneA := a, laneB := b, laneC := c }

/-- `t` is `s` but for one lane. -/
def State.laneOnly (s t : State) (l : LaneId) : Prop := ∃ x : Lane, t = s.setLane l x

end Sys2Proof.Machine
end

