-- ==== Sys2Proof/WellFormed.lean ====
section
/-! DEFINITION. The ranges that the spec gives the operands of the commands, as one decidable check. A command outside its range is still
answered by the machine: these checks say which commands a port or a rule of the spec can produce. -/

namespace Sys2Proof

/-- Field pins are 1 to 48 (R427). -/
def pinOk (p : Pin) : Bool := decide (1 ≤ p.toNat ∧ p.toNat ≤ 48)

/-- Field groups are 1 to 6 (R427). -/
def groupOk (g : BitVec 3) : Bool := decide (1 ≤ g.toNat ∧ g.toNat ≤ 6)

/-- Sessions are 1 to 511 (R349). -/
def sesOk (n : SesId) : Bool := decide (n ≠ 0)

/-- A frame carries a payload of at most 48 bytes (R311). -/
def frameOk (f : Frame) : Bool := decide (f.payload.length ≤ 48)

/-- A mailbox message has 8 to 16 words (R540, R541). -/
def messageOk (w : List Word) : Bool := decide (8 ≤ w.length ∧ w.length ≤ 16)

/-- A network time lies in its round: 250 ticks a slot (R22). -/
def NetTime.wf (t : NetTime) : Bool := decide (t.tick.toNat < 250)

/-- The operands of a command lie in the ranges that the spec gives them. -/
def Instr.wf : Instr → Bool
  | .payloadDeadline ses _ => sesOk ses
  | .sessionEn ses | .sessionDis ses => sesOk ses
  | .groupEn g | .groupDis g => groupOk g
  | .groupOverload g | .groupSag g | .sagRecover g => groupOk g
  | .frameReceive _ _ _ _ f => frameOk f
  | .health _ p | .witnessBroadcast p => decide (p.length = 48)
  | .fieldReadback rs ss => (rs.all fun r => pinOk r.pin) && ss.all fun x => groupOk x.group
  | .overcurrent p | .shortLoad p | .offChannelProbe p _ => pinOk p
  | .detectorProof ps _ => ps.all pinOk
  | .filteredInputChange p _ _ | .periodMeasure p _ | .periodTimeout p | .filterTick p _ _ => pinOk p
  | .cntPreset n _ => decide (1 ≤ n.toNat ∧ n.toNat ≤ 8)
  | .tempHigh n _ => decide (n.toNat ≤ 5)
  | .laneMessage _ _ w => messageOk w
  | .mailboxGo m _ _ | .semLockRead m _ | .semLockWrite m _ _ | .semForce m _ | .registerWrite m _ _ _ => decide (m ≠ 7)
  | .equal v _ _ => NetTime.wf v.hdr.start
  | .railOut _ w => decide (w ≠ 0xF)
  | _ => true

end Sys2Proof
end

