-- ==== Sys2Proof/Certificates/Slice0/Obligations.lean ====
section
/-! DEFINITION. The statements for the provers. A statement that names an effect says that the command answers a next state with that
effect (completion and result), and what it leaves as it was (frame); `State.noticed`, `State.lanesOnly` and `State.laneOnly` are the
frames of Safety.lean. -/

open Sys2Proof Sys2Proof.Machine

/-! ### The block -/

/-- A step takes the command at the front of the queue and lets it act on the state with the rest of the queue; with an empty queue the
module idles (the model's choice, log 1). -/
def Obligations.StepTakesFront : Prop :=
  (∀ (c : Instr) (rest : List Instr) (s : Machine.State),
    Machine.step { s with pending := c :: rest } = Machine.exec c { s with pending := rest })
  ∧ ∀ s : Machine.State, s.pending = [] → Machine.step s = .next s

/-- No command of the table stops the machine. -/
def Obligations.EveryCommandAnswers : Prop :=
  ∀ (c : Instr) (s : Machine.State), ∃ t, Machine.exec c s = .next t

/-- No command touches the queue: what waits behind it is run next, whatever it did. -/
def Obligations.ExecKeepsQueue : Prop :=
  ∀ (c : Instr) (s t : Machine.State), Machine.exec c s = .next t → t.pending = s.pending

/-- Every step keeps the canonical form of the memories of the three lanes. -/
def Obligations.StepKeepsMemoryForm : Prop :=
  ∀ s t : Machine.State, s.memSafe = true → Machine.step s = .next t → t.memSafe = true

/-- The state after reset: memory in its canonical form and no command waiting (the model's choice, log 11), MODE reads BOOT (R491),
the lanes are ACTIVE (R255), MARGIN_LOW reads 1000 (R58), WRAP_CFG 168 and WRAP_WIN 0x00F0_003C, GRANT 0xF (R419), every limited
bucket is full at rate 8 and burst 32 (R502, R509), and BCk_CTL reads LEN = 8 (R558). -/
def Obligations.ResetValues : Prop :=
  let s := Machine.State.reset
  s.memSafe = true ∧ s.pending = [] ∧ s.sys.mode = .boot ∧ (∀ l : LaneId, (s.lane l).stat.state = .active)
    ∧ s.take.marginLow = 1000 ∧ s.pair.wrapCfg = 168 ∧ s.pair.wrapWin = 0x00F0003C ∧ s.pair.grant = 0xF
    ∧ (∀ b ∈ s.reel.buckets, b.rate = 8 ∧ b.burst = 32 ∧ b.tokens = 32) ∧ (∀ b ∈ s.mbx.bc, b.len = 8)

/-! ### Takes -/

/-- - TAKE_START in a module that runs takes, N_k rounds after the last start: the take number rises by one and the take starts at slot 0 of the
round; a pending take length whose round has come takes effect (R23, R24, R50).
- TAKE_START that the lead's slate marks, in a module that is not LEAD: number and length are those of the slate (R25).
- A round that starts no take of the module, and a start while a take is under way, change nothing (R23).
- RUSHES: in a started take P0 begins in every lane that evaluates (R27, R28).
- LATCH_POINT: the outcome of the exchange is fixed, and P6 starts in every lane that has finished P5 (R34). -/
def Obligations.TakesReachTheirPhases : Prop :=
  (∀ (s : Machine.State) (round : BitVec 40) (marked : Bool),
      (s.take.point = .idle ∨ s.take.point = .deadline) → s.sys.mode.runs = true → s.moduleWraps = false → s.stg.restartDue = false →
      round = s.take.start.round + s.take.nCur.zeroExtend 40 → (s.sys.role = .lead ∨ marked = false) →
      ∃ t, Machine.exec (.takeStart round marked) s = .next t ∧ t.take.point = .started ∧ t.take.num = s.take.num + 1
        ∧ t.take.start = NetTime.atRound round
        ∧ t.take.nCur = (if s.take.nPend ≠ 0 ∧ s.take.pendRound.toNat ≤ round.toNat then s.take.nPend else s.take.nCur))
  ∧ (∀ (s : Machine.State) (round : BitVec 40) (x : Slate),
      (s.take.point = .idle ∨ s.take.point = .deadline) → s.sys.mode.runs = true → s.moduleWraps = false → s.stg.restartDue = false →
      s.endDue = false → s.sys.role ≠ .lead → s.net.lastSlate = some x → x.round = round → bit x.flags 0 = true →
      s.lengthOk x.nCur = true → x.nCur ≠ 0 →
      ∃ t, Machine.exec (.takeStart round true) s = .next t ∧ t.take.point = .started ∧ t.take.num = x.takeNum
        ∧ t.take.start = NetTime.atRound round ∧ t.take.nCur = field x.nCur 0 6)
  ∧ (∀ (s : Machine.State) (round : BitVec 40) (marked : Bool),
      (s.take.point ≠ .idle ∧ s.take.point ≠ .deadline) ∨ (s.sys.mode.runs = true ∧ s.moduleWraps = false ∧ s.startsTake round marked = false) →
      Machine.exec (.takeStart round marked) s = .next s)
  ∧ (∀ s : Machine.State, s.take.point = .started →
      ∃ t, Machine.exec .rushes s = .next t ∧ t.take = { s.take with point := .rushed, held := [] }
        ∧ ∀ l : LaneId, (s.lane l).evaluates = true →
            (t.lane l).fab.phase = .p0 ∧ (t.lane l).fab.step = 0 ∧ (t.lane l).fab.running = true)
  ∧ (∀ (s : Machine.State), s.take.point = .exchanged → s.sys.mode.runs = true → s.moduleWraps = false → s.sys.modePend = none →
      ∃ t, Machine.exec .latchPoint s = .next t ∧ t.take = { s.take with point := .latched }
        ∧ ∀ l : LaneId, (s.lane l).evaluates = true → (s.lane l).settled5 = true →
            (t.lane l).fab.phase = .p6 ∧ (t.lane l).fab.step = 0 ∧ (t.lane l).fab.running = true)

/-- - WAVE_STEP: one wave step in one lane, after P0 and with no individual call waiting: every tile's state vector becomes what the step of all
tiles gives it at once, from the state and the tokens before the step; the other lanes and the rest of the module keep their state (R73 to
R75).
- A step in which no tile reports ACT is terminal: P0 to P4 give way to the next phase at once, and P5 and P6 leave the lane quiescent; the
lane's time of the phase is that of its steps (R76).
- Any other step is followed by the next one of the same phase, up to 1,023 (R73, R76). -/
def Obligations.WaveStepMovesAllTiles : Prop :=
  ∀ (s : Machine.State) (l : LaneId) (ns : Nat),
    (s.lane l).evaluates = true → (s.lane l).fab.running = true → (s.lane l).fab.stuck = false → (s.lane l).fab.phase ≠ .p0 →
    (s.lane l).fab.calls = [] →
    let x := s.lane l
    let r := stepAll x s.sys.settling x.fab.phase (x.fab.step + 1)
    ∃ t, Machine.exec (.waveStep l ns) s = .next t
      ∧ (t.lane l).vit.vec = r.vec
      ∧ (r.evs = [] → (∀ e ∈ r.reps, e.2.act = false) →
          (t.lane l).fab.durs.getD x.fab.phase.num 0 = x.fab.phaseNs + ns
          ∧ (x.fab.phase ≠ .p5 → x.fab.phase ≠ .p6 →
              (t.lane l).fab.phase = x.fab.phase.next ∧ (t.lane l).fab.step = 0 ∧ (t.lane l).fab.running = true)
          ∧ (x.fab.phase = .p5 ∨ x.fab.phase = .p6 → (t.lane l).fab.quiet = true ∧ (t.lane l).fab.running = false))
      ∧ (r.evs = [] → (∃ e ∈ r.reps, e.2.act = true) → x.fab.step + 1 < 1024 →
          (t.lane l).fab.phase = x.fab.phase ∧ (t.lane l).fab.step = x.fab.step + 1 ∧ (t.lane l).fab.phaseNs = x.fab.phaseNs + ns)
      ∧ (∀ k : LaneId, k ≠ l → t.lane k = s.lane k)
      ∧ t.take = s.take ∧ t.sys = s.sys ∧ t.net = s.net ∧ t.pair = s.pair ∧ t.fio = s.fio

/-- The timers of P1 that run out before wave step 1: the tile's section of P1 is done, in every lane that is there, where it makes the
timer expire; nothing but the lanes changes (R140, R146, R150, R154, R163). -/
def Obligations.P1TimersExpire : Prop :=
  let due : Instr → Pers → TileVec → TileVec → Bool := fun c p v w =>
    match c with
    | .trackClearDelayExpiry _ => (decide (p = .track) && !ps v 0 && ps w 0) || (decide (p = .point) && !ps v 6 && ps w 6)
    | .berthDelayExpiry _ => decide (p = .track) && !ps v 3 && ps w 3
    | .pointMoveTimeout _ => decide (p = .point) && ps v 4 && !ps w 4 && ps w 5
    | .closeSupervisionExpiry _ => decide (p = .doors) && !ps v 4 && ps w 4
    | _ => false
  ∀ (s : Machine.State) (e : Elem) (l : LaneId) (u : Tile), (s.lane l).evaluates = true → (s.lane l).fab.running = true →
    (s.lane l).fab.phase = .p1 → (s.lane l).fab.step = 0 → regionOn (s.lane l).vit.reg e = true → tileOf (s.lane l).fab.tiles e = some u →
    u.wr.timed = false →
    let x := tileCtx (s.lane l) false u
    let v := vecOf (s.lane l).vit.vec e
    let w := sectionP1 x (tileInputs x) v
    ∀ c ∈ [Instr.trackClearDelayExpiry e, .berthDelayExpiry e, .pointMoveTimeout e, .closeSupervisionExpiry e], due c (cfgPers u.cfg) v w = true →
      ∃ t, Machine.exec c s = .next t ∧ s.lanesOnly t ∧ (t.lane l).vit.vec = vecMap (s.lane l).vit.vec e fun _ => w

/-- The timers of P2 and P5, at the start of the phase in a lane with one such tile:
- PERMISSION_DELAY_EXPIRY: the permission delay of an AUXLOGIC that is permitted comes to 0 and sets DONE (R175);
- PROVE_GRACE_EXPIRY: the proving grace of a SIGNAL that holds no route comes to its end, and the SIGNAL is evaluated with route_ok = 0:
its aspect is the stop aspect 0, and a proceed aspect is remembered as the previous one (R158);
- APPROACH_LOCKING_EXPIRY: the SIGNAL that has run out its time releases itself (R214).
Nothing but the lanes changes, and no other vector. -/
def Obligations.LaterTimersExpire : Prop :=
  let at_ : Lane → Elem → Phase → Tile → Prop := fun x e p u =>
    x.evaluates = true ∧ x.fab.running = true ∧ x.fab.phase = p ∧ x.fab.step = 0 ∧ regionOn x.vit.reg e = true ∧ tileOf x.fab.tiles e = some u
      ∧ (∃ y ∈ x.vit.vec, y.1 = e)
  let others : Lane → Lane → Elem → Prop := fun x y e => ∀ f : Elem, f ≠ e → vecOf y.vit.vec f = vecOf x.vit.vec f
  (∀ (s : Machine.State) (e : Elem) (l : LaneId) (u : Tile), at_ (s.lane l) e .p2 u → cfgPers u.cfg = .auxlogic → paramBit u.cfg 168 = true →
      let v := vecOf (s.lane l).vit.vec e
      ps v 1 = true → ps v 2 = false → v.tmr = 1 →
      ∃ t, Machine.exec (.permissionDelayExpiry e) s = .next t ∧ s.lanesOnly t ∧ others (s.lane l) (t.lane l) e
        ∧ ps (vecOf (t.lane l).vit.vec e) 2 = true ∧ (vecOf (t.lane l).vit.vec e).tmr = 0)
  ∧ (∀ (s : Machine.State) (e : Elem) (l : LaneId) (u : Tile), at_ (s.lane l) e .p5 u → cfgPers u.cfg = .signal → u.wr.aspect = false →
      let v := vecOf (s.lane l).vit.vec e
      field v.pstate 6 4 = 1#4 → v.hold = 0 →
      ∃ t, Machine.exec (.proveGraceExpiry e) s = .next t ∧ s.lanesOnly t ∧ others (s.lane l) (t.lane l) e
        ∧ sigAspect (vecOf (t.lane l).vit.vec e) = 0
        ∧ (sigAspect v = 0 → field (vecOf (t.lane l).vit.vec e).pstate 6 4 = 0#4)
        ∧ (sigAspect v ≠ 0 → field (vecOf (t.lane l).vit.vec e).pstate 3 3 = sigAspect v))
  ∧ (∀ (s : Machine.State) (e : Elem) (l : LaneId) (u : Tile), at_ (s.lane l) e .p2 u → cfgPers u.cfg = .signal →
      let v := vecOf (s.lane l).vit.vec e
      v.hold ≠ 0 → isOwn u.cfg v.route = true → sigApproach v = true → v.tmr = 0 →
      ∃ t, Machine.exec (.approachLockingExpiry e) s = .next t ∧ s.lanesOnly t ∧ others (s.lane l) (t.lane l) e
        ∧ (vecOf (t.lane l).vit.vec e).hold = 0)

/-- - EXCHANGE_POINT: at X a lane that evaluates and has not finished P0 to P5 is excluded with cause OVERRUN (R40, R41, R386).
- EXCHANGE_POINT with every lane in time: where the pair-agreement digest of each is ready (whether it is, is a free value, log 124), the
take goes on to X and no lane changes; a lane whose digest is not ready is excluded like one that is late (R33, R386).
- EXCHANGE_POINT with every lane in time and ready, and one pair digest in all ACTIVE lanes: the module sends its DIGEST (R33, R386). -/
def Obligations.ExchangePointExcludesOrSends : Prop :=
  let late : Machine.State → LaneId → Bool := fun s l => (s.lane l).evaluates && Config.digestLate (s.free + 3 + l.num)
  let inTime : Machine.State → Prop := fun s => ∀ l : LaneId, (s.lane l).evaluates = true →
    (s.lane l).settled5 = true ∧ (s.lane l).fab.settleNs + 25000 < windowNs s.take.nCur
  (∀ (s : Machine.State) (l : LaneId), s.take.point = .rushed → (s.lane l).evaluates = true → (s.lane l).settled5 = false →
      ∃ t, Machine.exec .exchangePoint s = .next t ∧ t.take.num = s.take.num
        ∧ (t.lane l).stat.state = .excluded ∧ (t.lane l).stat.cause = 0x04)
  ∧ (∀ (s : Machine.State), s.take.point = .rushed → s.takesRun = true → inTime s →
      ∃ t, Machine.exec .exchangePoint s = .next t ∧ t.take.num = s.take.num
        ∧ ∀ l : LaneId,
            if late s l = true then (t.lane l).stat.state = .excluded ∧ (t.lane l).stat.cause = 0x04
            else (t.lane l).stat.state = (s.lane l).stat.state ∧ (t.lane l).vit = (s.lane l).vit)
  ∧ (∀ (s : Machine.State) (d : Quad), s.take.point = .rushed → s.takesRun = true → inTime s → (∃ l : LaneId, (s.lane l).active = true) →
      (∀ l : LaneId, (s.lane l).active = true →
        pairDigest { (s.lane l).vit with hdr := { (s.lane l).vit.hdr with claim := s.pair.claim } } = d) →
      ∃ t, Machine.exec .exchangePoint s = .next t ∧ t.take.num = s.take.num
        ∧ (t.take.point = .exchanged ∧ t.pair.ownDig = some d ∧ .digest s.take.num s.pair.claim d ∈ t.out
           ∨ ∃ l : LaneId, late s l = true ∧ (t.lane l).stat.state = .excluded))

/-- The digest comparison (R225): with three lanes in voting, equal digests change nothing, one that differs excludes its lane with cause
STATE_DIGEST, and three different ones end in CUT; with two lanes in voting, equal digests change nothing and different ones end in CUT.
Three lanes vote in VITAL, COMMISSIONING and WITNESS, two in DEGRADED, COMMISSIONING and WITNESS (R11, R251, R396). -/
def Obligations.DigestsAreJudged : Prop :=
  ∀ s : Machine.State, (∀ l : LaneId, (s.lane l).stat.state ≠ .recovering) →
    ((∀ l : LaneId, (s.lane l).active = true) → (s.sys.mode = .vital ∨ s.sys.mode = .commissioning ∨ s.sys.mode = .witness) →
      (s.laneB.digest = s.laneA.digest → s.laneC.digest = s.laneA.digest → s.judgeDigests false = s)
      ∧ (∀ k : LaneId, (∀ i j : LaneId, i ≠ k → j ≠ k → (s.lane i).digest = (s.lane j).digest) →
          (∀ i : LaneId, i ≠ k → (s.lane i).digest ≠ (s.lane k).digest) →
          ((s.judgeDigests false).lane k).stat.state = .excluded ∧ ((s.judgeDigests false).lane k).stat.cause = 0x01
            ∧ (∀ i : LaneId, i ≠ k → ((s.judgeDigests false).lane i).stat.state = .active)
            ∧ (s.judgeDigests false).sys.mode = (if s.sys.mode = .vital then .degraded else s.sys.mode))
      ∧ (s.laneA.digest ≠ s.laneB.digest → s.laneA.digest ≠ s.laneC.digest → s.laneB.digest ≠ s.laneC.digest →
          (s.judgeDigests false).sys.mode = .cut))
    ∧ (s.activeCount = 2 → (s.sys.mode = .degraded ∨ s.sys.mode = .commissioning ∨ s.sys.mode = .witness) →
        ∀ k l : LaneId, k ≠ l → (s.lane k).active = true → (s.lane l).active = true →
          ((s.lane k).digest = (s.lane l).digest → s.judgeDigests false = s)
          ∧ ((s.lane k).digest ≠ (s.lane l).digest → (s.judgeDigests false).sys.mode = .cut))

/-- DEADLINE of a module that runs takes, with two or three ACTIVE lanes in time that give one command, no lane whose switches read otherwise,
all evaluating lanes of one vital state, and no check or service load that ends in this take: where the voter's comparator channels disagree
(a free value, log 123) the module is in CUT (R222); otherwise the digest of that vital state is the agreed one of the take, and each lane that
evaluates holds it in its newest checkpoint (R34, R36, R225, R229, R232). -/
def Obligations.AgreedTakeIsCheckpointed : Prop :=
  ∀ (s : Machine.State) (v : Vital) (c : BitVec 48), s.take.point = .latched → s.sys.mode.runs = true → s.moduleWraps = false →
    2 ≤ s.activeCount → s.stg.service ≠ .checking → s.stg.service ≠ .failed →
    (∀ l : LaneId, (s.lane l).evaluates = true → (s.lane l).settled6 = true ∧ (s.lane l).fab.durs.getD 6 0 < 975000 ∧ (s.lane l).vit = v
      ∧ s.fio.cmd.get l = c ∧ s.switchBad l = false ∧ ∀ k : Check, (s.lane l).check = some k → k.result = none) →
    ∃ t, Machine.exec .deadline s = .next t
      ∧ (if Config.channelsDiffer (s.free + 12) = true then t.sys.mode = .cut
         else t.vote.ckptValid = true ∧ t.vote.ckptTake = s.take.num ∧ t.vote.agreed = vitalDigest v ∧ t.vote.agreedTake = s.take.num
           ∧ ∀ l : LaneId, (s.lane l).evaluates = true →
               ∃ k : Checkpoint, (t.lane l).newest = some k ∧ k.vital = v ∧ k.digest = vitalDigest v)

/-- - BOUNDARY_POINT with every lane's boundary work complete and no check slice outstanding: the messages that no lane could send are dropped and
counted, the cores that run enter their wait, and nothing else of the lanes changes (R32, R245, R551). A lane that evaluates and has not
completed is excluded with cause OVERRUN (R41).
- SCRUB_STEP of one codeword that can be decoded, the first of the take's 384 or the next: the corrected codeword is written back, data
corrections and check-symbol repairs are counted, and the visit goes on to the next codeword (R96, R97). -/
def Obligations.IdleWorkOfALane : Prop :=
  (∀ (s : Machine.State), s.take.boundDue = true → (s.take.point = .started ∨ s.take.point = .rushed) →
      (∀ l : LaneId, ((s.lane l).stat.running = true → (s.lane l).stat.replayOk = true)
        ∧ ∀ k : Check, (s.lane l).check = some k → (s.lane l).evaluates = true → k.lags (s.take.num - 1) = false) →
      ∃ t, Machine.exec (.boundaryPoint 0) s = .next t
        ∧ (∀ l : LaneId, t.lane l = { (s.lane l) with
            unsent := [], stat := if (s.lane l).stat.running = true then (s.lane l).stat.rest else (s.lane l).stat })
        ∧ t.mbx.drops = satAdd s.mbx.drops (s.laneA.unsent.length + s.laneB.unsent.length + s.laneC.unsent.length)
        ∧ t.take = { s.take with boundDue := false } ∧ t.sys = s.sys)
  ∧ (∀ (s : Machine.State) (m : LaneMask) (l : LaneId), s.take.boundDue = true → (s.take.point = .started ∨ s.take.point = .rushed) →
      l.inMask m = true → (s.lane l).evaluates = true →
      ∃ t, Machine.exec (.boundaryPoint m) s = .next t ∧ (t.lane l).stat.state = .excluded ∧ (t.lane l).stat.cause = 0x04
        ∧ t.take.boundDue = false)
  ∧ (∀ (s : Machine.State) (l : LaneId) (w : Bytes) (d c : Nat),
      let n := s.take.num.toNat % 64
      let m := (s.lane l).mem
      let at_ := if m.scrubTake = some s.take.num then m.scrubCw else 384 * (n % 4)
      s.takesRun = true → (s.lane l).evaluates = true → (s.lane l).fab.running = false →
      (m.scrubTake = some s.take.num → m.scrubReg.toNat = n / 4 ∧ m.scrubCw < 384 * (n % 4 + 1)) → at_ + 1 < 1536 →
      rsDecode (memLoad m.cells (scrubAt (s.lane l).vit.reg (n / 4) at_).addr 36) = .ok w d c →
      ∃ t, Machine.exec (.scrubStep l 1) s = .next t
        ∧ (t.lane l).mem.cells = (if d + c = 0 then m.cells
            else memStore m.cells (scrubAt (s.lane l).vit.reg (n / 4) at_).addr w)
        ∧ (t.lane l).mem.corr = (if d + c = 0 then m.corr else satAdd m.corr d)
        ∧ (t.lane l).mem.chkRep = (if d + c = 0 then m.chkRep else satAdd m.chkRep c)
        ∧ (t.lane l).mem.scrubReg.toNat = n / 4 ∧ (t.lane l).mem.scrubCw = at_ + 1
        ∧ (t.lane l).vit = (s.lane l).vit ∧ t.take = s.take ∧ t.sys = s.sys)

/-! ### Commands of the rushes -/

/-- - ROUTE_REQUEST in P0 of a route that is not pending, while fewer than 256 are, enters the agreed request set of every lane, with nothing else
changed; of a route that is pending it changes nothing, and with 256 pending it is REFUSED_INVALID (R646).
- A route request that P0 takes up is refused with REFUSED_INVALID where its entry is not valid, and leaves the set (R183).
- CANCEL in P0 of a route that is not live but pending: the request leaves the set, with the outcome REFUSED_INVALID for the request and
RELEASED for the cancel (R184). -/
def Obligations.RouteRequestsEnterAndLeave : Prop :=
  (∀ (s : Machine.State) (r : RouteId) (l : LaneId), s.rushing = true → (s.lane l).inP0 = true →
      (∀ q ∈ (s.lane l).vit.pending, q.route ≠ r) → (s.lane l).vit.pending.length < 256 →
      ∃ t, Machine.exec (.routeRequest r) s = .next t ∧ s.lanesOnly t
        ∧ (∃ q ∈ (t.lane l).vit.pending, q.route = r)
        ∧ (∀ q : Request, q.route ≠ r → (q ∈ (t.lane l).vit.pending ↔ q ∈ (s.lane l).vit.pending))
        ∧ (t.lane l).vit.vec = (s.lane l).vit.vec ∧ (t.lane l).mem = (s.lane l).mem ∧ (t.lane l).fab = (s.lane l).fab)
  ∧ (∀ (s : Machine.State) (r : RouteId) (l : LaneId), s.rushing = true → (s.lane l).inP0 = true →
      (∃ q ∈ (s.lane l).vit.pending, q.route = r) →
      ∃ t, Machine.exec (.routeRequest r) s = .next t ∧ s.lanesOnly t ∧ t.lane l = s.lane l)
  ∧ (∀ (s : Machine.State) (r : RouteId) (l : LaneId), s.rushing = true → (s.lane l).inP0 = true →
      (∀ q ∈ (s.lane l).vit.pending, q.route ≠ r) → 256 ≤ (s.lane l).vit.pending.length →
      ∃ t, Machine.exec (.routeRequest r) s = .next t ∧ s.lanesOnly t
        ∧ (t.lane l).vit = { (s.lane l).vit with outcomes := (s.lane l).vit.outcomes ++
            [{ kind := .route, seq := 0, item := 0, what := r.zeroExtend 16, code := 8, cause := 0 }] })
  ∧ (∀ (l : Lane) (q : Request), rtValid (l.route q.route) = false →
      (l.examine q).vit.pending = l.vit.pending.filter (fun p => decide (p.route ≠ q.route))
        ∧ (l.examine q).vit.outcomes = l.vit.outcomes ++
            [{ kind := .route, seq := q.seq, item := q.item, what := q.route.zeroExtend 16, code := 8, cause := 0 }]
        ∧ (l.examine q).fab.latches = l.fab.latches ∧ (l.examine q).vit.vec = l.vit.vec)
  ∧ (∀ (s : Machine.State) (r : RouteId) (l : LaneId) (p : Request), s.rushing = true → (s.lane l).inP0 = true →
      liveIn (s.lane l).vit r = false → (s.lane l).vit.pending.find? (fun q => decide (q.route = r)) = some p →
      ∃ t, Machine.exec (.cancel r) s = .next t ∧ s.lanesOnly t
        ∧ (t.lane l).vit.pending = (s.lane l).vit.pending.filter (fun q => decide (q.route ≠ r))
        ∧ (t.lane l).vit.outcomes = (s.lane l).vit.outcomes ++
            [{ kind := .route, seq := p.seq, item := p.item, what := p.route.zeroExtend 16, code := 8, cause := 0 },
             { kind := .route, seq := 0, item := 0, what := r.zeroExtend 16, code := 7, cause := 0 }]
        ∧ (t.lane l).vit.vec = (s.lane l).vit.vec ∧ (t.lane l).mem = (s.lane l).mem)

/-- - The individual items of the rushes, in P0: a point call joins the calls of the take (R153); a door release or close and a plunger reset
join the latched inputs and are ACCEPTED (R163, R164, R171).
- An individual item whose element has another personality is REFUSED_INVALID, with its record, and enters nothing (R153, R163, R164, R171,
R219, R640).
- Every row of the rushes that comes outside P0 is held for the rushes of the next take, and changes nothing else (R30). -/
def Obligations.RushItemsFollowTheirPersonality : Prop :=
  (∀ (s : Machine.State) (e : Elem) (l : LaneId), s.rushing = true → (s.lane l).inP0 = true → (s.lane l).persOf e = .point →
      ∀ c ∈ [(Instr.pointCallNormal e, false), (Instr.pointCallReverse e, true)],
        ∃ t, Machine.exec c.1 s = .next t ∧ s.lanesOnly t
          ∧ t.lane l = { (s.lane l) with fab := { (s.lane l).fab with
              calls := (s.lane l).fab.calls ++ [{ elem := e, reverse := c.2, seq := 0, item := 0, issued := false }] } })
  ∧ (∀ (s : Machine.State) (e : Elem) (l : LaneId), s.rushing = true → (s.lane l).inP0 = true →
      ∀ c ∈ [(Instr.doorRelease e, Pers.doors, fun i : Snapshot => { i with release := i.release ++ [e] }),
              (Instr.doorClose e, Pers.doors, fun i : Snapshot => { i with close := i.close ++ [e] }),
              (Instr.plungerReset e, Pers.plunger, fun i : Snapshot => { i with reset := i.reset ++ [e] })],
        (s.lane l).persOf e = c.2.1 →
        ∃ t, Machine.exec c.1 s = .next t ∧ s.lanesOnly t
          ∧ t.lane l = { (s.lane l) with vit := { (s.lane l).vit with
              inputs := c.2.2 (s.lane l).vit.inputs
              outcomes := (s.lane l).vit.outcomes ++
                [{ kind := .route, seq := 0, item := 0, what := e.zeroExtend 16, code := 0xC, cause := 0 }] } })
  ∧ (∀ (s : Machine.State) (e : Elem) (l : LaneId), s.rushing = true → (s.lane l).inP0 = true →
      ∀ c ∈ [(Instr.pointCallNormal e, Pers.point), (Instr.pointCallReverse e, Pers.point), (Instr.doorRelease e, Pers.doors),
             (Instr.doorClose e, Pers.doors), (Instr.plungerReset e, Pers.plunger)],
        (s.lane l).persOf e ≠ c.2 →
        ∃ t, Machine.exec c.1 s = .next t ∧ s.lanesOnly t
          ∧ (t.lane l).vit = { (s.lane l).vit with outcomes := (s.lane l).vit.outcomes ++
              [{ kind := .route, seq := 0, item := 0, what := e.zeroExtend 16, code := 8, cause := 0 }] }
          ∧ (t.lane l).fab = (s.lane l).fab ∧ (t.lane l).mem = (s.lane l).mem
          ∧ ∃ b : RecBody, b.code = 0x40 ∧ (t.lane l).report = (s.lane l).report ++ [b])
  ∧ (∀ (s : Machine.State) (e : Elem) (r : RouteId) (g : Region) (n : SesId) (i : BitVec 3) (k : Word) (a : ForceArg) (l : LaneId)
      (d : BitVec 64), s.rushing = false →
      ∀ c ∈ [Instr.routeRequest r, .cancel r, .pointCallNormal e, .pointCallReverse e, .doorRelease e, .doorClose e, .plungerReset e,
             .erlArm r, .erlExec r, .regionEn g, .regionDis g, .sessionEn n, .sessionDis n, .groupEn i, .groupDis i, .spliceLoad,
             .spliceSchedule k, .spliceAbort, .modeVital, .modeCommission, .forceSet a, .blockSet a, .forceClear a, .laneReset l,
             .laneWrap l, .areaNotice d],
        Machine.exec c s = .next { s with take := { s.take with held := s.take.held ++ [c] } })

/-- The emergency release, in P0: ERL_ARM arms a live route that is not armed while fewer than 8 are; ERL_EXEC in the window starts the timer of
the route; a timer that is due expires; an arm whose window of 256 takes is past lapses (R215, R216). -/
def Obligations.EmergencyReleaseSteps : Prop :=
  ∀ (s : Machine.State) (r : RouteId) (l : LaneId), (s.lane l).inP0 = true →
    (s.rushing = true → liveIn (s.lane l).vit r = true → (∀ e ∈ (s.lane l).vit.erl, e.route ≠ r) → (s.lane l).vit.erl.length < 8 →
      ∃ t, Machine.exec (.erlArm r) s = .next t ∧ s.lanesOnly t
        ∧ (t.lane l).vit.erl = (s.lane l).vit.erl ++
            [{ route := r, armTake := (s.lane l).vit.hdr.takeNum, running := false, tmr := 0, expired := false }]
        ∧ (t.lane l).vit.vec = (s.lane l).vit.vec)
    ∧ (s.rushing = true → (∃ e ∈ (s.lane l).vit.erl, e.route = r ∧ e.running = false ∧ 1 ≤ ((s.lane l).vit.hdr.takeNum - e.armTake).toNat
        ∧ ((s.lane l).vit.hdr.takeNum - e.armTake).toNat ≤ 256) →
      ∃ t, Machine.exec (.erlExec r) s = .next t ∧ s.lanesOnly t
        ∧ (∀ e ∈ (t.lane l).vit.erl, e.route = r → e.running = true ∧ e.tmr = (s.lane l).timer (rtErlIdx ((s.lane l).route r)))
        ∧ (∀ e : ErlEntry, e.route ≠ r → (e ∈ (t.lane l).vit.erl ↔ e ∈ (s.lane l).vit.erl)))
    ∧ ((∃ e ∈ (s.lane l).vit.erl, e.route = r ∧ e.running = true ∧ e.tmr = 0 ∧ e.expired = false) →
      ∃ t, Machine.exec (.erlExpiry r) s = .next t ∧ s.lanesOnly t
        ∧ (∀ e ∈ (t.lane l).vit.erl, e.route = r → e.expired = true) ∧ (∀ x ∈ (t.lane l).fab.exits, x.route = r → x.free = true))
    ∧ ((∃ e ∈ (s.lane l).vit.erl, e.route = r ∧ e.running = false ∧ 256 < ((s.lane l).vit.hdr.takeNum - e.armTake).toNat) →
      ∃ t, Machine.exec (.erlWindowLapse r) s = .next t ∧ s.lanesOnly t
        ∧ ∀ e : ErlEntry, e ∈ (t.lane l).vit.erl ↔ e ∈ (s.lane l).vit.erl
            ∧ ¬ (e.route = r ∧ e.running = false ∧ 256 < ((s.lane l).vit.hdr.takeNum - e.armTake).toNat))

/-- - REGION_EN, SESSION_EN and GROUP_EN in P0 start the consistency check of their scope while no check runs (R272); one that finds a check
running is refused with CHECK_BUSY, and the running check goes on (R278).
- REGION_DIS, SESSION_DIS and GROUP_DIS in P0 act at once: the enable is cleared, and no other enable changes (R272); the output switches of
the group open (the model's reading, log 121). -/
def Obligations.EnablesAndDisables : Prop :=
  (∀ (s : Machine.State) (r : Region) (n : SesId) (g : BitVec 3) (l : LaneId), s.rushing = true → (s.lane l).inP0 = true →
      ∀ c ∈ [(Instr.regionEn r, 1#3, r.zeroExtend 16), (Instr.sessionEn n, 3#3, n.zeroExtend 16), (Instr.groupEn g, 4#3, g.zeroExtend 16)],
        ((s.lane l).check = none →
          ∃ t, Machine.exec c.1 s = .next t ∧ s.lanesOnly t
            ∧ t.lane l = { (s.lane l) with
                check := some { scope := c.2.1, item := c.2.2, set := 0, slice := 0, start := (s.lane l).vit.hdr.takeNum, seq := 0
                                result := none } })
        ∧ (∀ k : Check, (s.lane l).check = some k →
          ∃ t, Machine.exec c.1 s = .next t ∧ s.lanesOnly t ∧ (t.lane l).check = some k
            ∧ (t.lane l).vit = { (s.lane l).vit with outcomes := (s.lane l).vit.outcomes ++
                [{ kind := .enable, seq := 0, item := 0, what := c.2.2, code := 0x80, cause := c.2.1 }] }))
  ∧ (∀ (s : Machine.State) (r : Region) (l : LaneId), s.rushing = true → (s.lane l).inP0 = true →
      ∃ t, Machine.exec (.regionDis r) s = .next t ∧ s.lanesOnly { t with stg := s.stg }
        ∧ bit (t.lane l).vit.reg.regEn r.toNat = false ∧ bit (t.lane l).disabled r.toNat = true
        ∧ (∀ k < 16, k ≠ r.toNat → bit (t.lane l).vit.reg.regEn k = bit (s.lane l).vit.reg.regEn k)
        ∧ (t.lane l).vit.reg.grpEn = (s.lane l).vit.reg.grpEn ∧ (t.lane l).vit.ses = (s.lane l).vit.ses)
  ∧ (∀ (s : Machine.State) (n : SesId) (l : LaneId), s.rushing = true → (s.lane l).inP0 = true →
      ∃ t, Machine.exec (.sessionDis n) s = .next t ∧ s.lanesOnly t
        ∧ (∀ x ∈ (t.lane l).vit.ses, x.ses = n → x.enabled = false ∧ x.fresh = false)
        ∧ (∀ x : SesRec, x.ses ≠ n → (x ∈ (t.lane l).vit.ses ↔ x ∈ (s.lane l).vit.ses))
        ∧ (t.lane l).vit.reg.regEn = (s.lane l).vit.reg.regEn)
  ∧ (∀ (s : Machine.State) (g : BitVec 3) (l : LaneId), s.rushing = true → (s.lane l).inP0 = true → s.voice.inP0 = true →
      1 ≤ g.toNat → g.toNat ≤ 6 →
      ∃ t, Machine.exec (.groupDis g) s = .next t ∧ t.take = s.take ∧ t.sys = s.sys
        ∧ (∀ k : LaneId, t.fio.cmd.get k = s.fio.cmd.get k &&& ~~~groupPins g.toNat)
        ∧ bit (t.lane l).vit.reg.grpEn (g.toNat - 1) = false
        ∧ (∀ k < 6, k ≠ g.toNat - 1 → bit (t.lane l).vit.reg.grpEn k = bit (s.lane l).vit.reg.grpEn k)
        ∧ (∀ k < 48, bit (groupPins g.toNat) k = true → bit (t.lane l).vit.inputs.rmask k = true))

/-- - SPLICE_BAR in P0, in a mode that runs takes, with no splice in hand and a set of 1 to 14 regions: stage BARRED, the set taken, its regions
held restrictive, and the marker journaled (R284 to R288, R300).
- The splice in hand, in P0: SPLICE_LOAD from BARRED with the staged image of the set begins loading with invalid shadow planes and takes the
image into use (R291); SPLICE_SCHEDULE 2 to 4,096 takes ahead with the hold condition met names the commit take (R292); SPLICE_ABORT ends the
splice, lifts its restriction and removes the marker (R290, R300).
- SPLICE_BAR outside P0 is held like every row of the rushes; with no splice in hand the coordinator journals its marker first (R300, R30). -/
def Obligations.SpliceCommandsAdvance : Prop :=
  (∀ (s : Machine.State) (set : BitVec 16) (l : LaneId), spliceMode s.cmdMode = true → set ≠ 0 → popCount set 16 ≤ 14 → s.rushing = true →
      s.voice.inP0 = true → s.voice.vit.reg.stage = .none → (s.lane l).inP0 = true → (s.lane l).vit.reg.stage = .none →
      ∃ t, Machine.exec (.spliceBar set) s = .next t ∧ (t.stg.marker.map (·.1)) = some set
        ∧ t.take = s.take ∧ t.sys = s.sys ∧ t.fio = s.fio
        ∧ (t.lane l).vit.reg = { (s.lane l).vit.reg with
            stage := .barred, spliceSet := set, regRestrict := (s.lane l).vit.reg.regRestrict ||| set, commitTake := 0, sched := false
            settle := [] }
        ∧ (t.lane l).vit.vec = (s.lane l).vit.vec ∧ (t.lane l).mem = (s.lane l).mem)
  ∧ (∀ (s : Machine.State) (l : LaneId), spliceMode s.cmdMode = true → s.rushing = true → s.voice.inP0 = true →
      s.voice.vit.reg.stage = .barred → s.verifiedSet = some s.voice.vit.reg.spliceSet → (s.lane l).inP0 = true →
      (s.lane l).vit.reg.stage = .barred → (s.lane l).vit.reg.spliceSet = s.voice.vit.reg.spliceSet →
      ∃ t, Machine.exec .spliceLoad s = .next t ∧ t.stg.state = .inUse ∧ t.stg.use = .splice
        ∧ (t.lane l).vit.reg.stage = .loading ∧ (t.lane l).mem.loaded = 0 ∧ (t.lane l).vit.reg.rtShadow = false
        ∧ (t.lane l).vit.reg.shadow = (s.lane l).vit.reg.shadow &&& ~~~(s.lane l).vit.reg.spliceSet
        ∧ (t.lane l).vit.reg.regRestrict = (s.lane l).vit.reg.regRestrict)
  ∧ (∀ (s : Machine.State) (k : Word) (l : LaneId), spliceMode s.cmdMode = true → s.rushing = true → (s.lane l).inP0 = true →
      (s.lane l).vit.reg.stage = .checked → (s.lane l).spliceClear = true →
      2 ≤ (k - (s.lane l).vit.hdr.takeNum).toNat → (k - (s.lane l).vit.hdr.takeNum).toNat ≤ 4096 →
      ∃ t, Machine.exec (.spliceSchedule k) s = .next t ∧ s.lanesOnly t
        ∧ (t.lane l).vit.reg = { (s.lane l).vit.reg with stage := .scheduled, commitTake := k, sched := true })
  ∧ (∀ (s : Machine.State) (l : LaneId), spliceMode s.cmdMode = true → s.rushing = true → (s.lane l).inP0 = true →
      ((s.lane l).vit.reg.stage = .barred ∨ (s.lane l).vit.reg.stage = .loading ∨ (s.lane l).vit.reg.stage = .checked
        ∨ (s.lane l).vit.reg.stage = .scheduled) →
      ∃ t, Machine.exec .spliceAbort s = .next t
        ∧ (l = s.voiceId → t.stg.marker = none)
        ∧ (t.lane l).vit.reg.stage = .none ∧ (t.lane l).vit.reg.spliceSet = 0
        ∧ (t.lane l).vit.reg.regRestrict = (s.lane l).vit.reg.regRestrict &&& ~~~(s.lane l).vit.reg.spliceSet
        ∧ (t.lane l).vit.reg.active = (s.lane l).vit.reg.active)
  ∧ (∀ (s : Machine.State) (set : BitVec 16), s.rushing = false →
      ∃ t, Machine.exec (.spliceBar set) s = .next t ∧ t.take = { s.take with held := s.take.held ++ [.spliceBar set] }
        ∧ (s.voice.vit.reg.stage = .none → (t.stg.marker.map (·.1)) = some set) ∧ (s.voice.vit.reg.stage ≠ .none → t.stg = s.stg)
        ∧ t.laneA = s.laneA ∧ t.laneB = s.laneB ∧ t.laneC = s.laneC)

/-- MODE_COMMISSION from VITAL or DEGRADED, and MODE_VITAL from COMMISSIONING with three ACTIVE lanes, no debugger and no force: ACCEPTED,
MODE_SEL follows, and the mode changes at L; the mode itself does not change before (R481, R486). -/
def Obligations.ModeCommandsPend : Prop :=
  (∀ s : Machine.State, (s.cmdMode = .vital ∨ s.cmdMode = .degraded) → s.rushing = true → s.voice.inP0 = true →
    ∃ t, Machine.exec .modeCommission s = .next t ∧ t.sys = { s.sys with modePend := some true, commissioning := true })
  ∧ (∀ s : Machine.State, s.cmdMode = .commissioning → s.activeCount = 3 → (∀ l : LaneId, (s.lane l).stat.dbg = false) →
    (∀ e ∈ s.voice.vit.force, e.type ≠ 1 ∧ e.type ≠ 2) → s.rushing = true → s.voice.inP0 = true →
    ∃ t, Machine.exec .modeVital s = .next t ∧ t.sys = { s.sys with modePend := some false, commissioning := false })

/-- - In P0, FORCE_SET in COMMISSIONING and BLOCK_SET in any mode that runs takes add an entry that names bits of the element and meets no other,
with the take of the command; FORCE_CLEAR removes the entry that it names, and no other (R483, R485, R486).
- A force outside COMMISSIONING is REFUSED_MODE and enters nothing (R486). -/
def Obligations.ForceTableFollowsCommands : Prop :=
  (∀ (s : Machine.State) (a : ForceArg) (l : LaneId), s.rushing = true → (s.lane l).inP0 = true →
      let e := forceKey a (s.lane l).vit.hdr.takeNum
      (s.lane l).forceTarget e = true → (∀ f ∈ (s.lane l).vit.force, sameEntry e f = false ∧ entriesMeet e f = false) →
      (s.lane l).vit.force.length < 256 →
      ∀ c ∈ [(Instr.forceSet a, decide (s.cmdMode = .commissioning), decide (a.type = 1 ∨ a.type = 2)),
             (Instr.blockSet a, spliceMode s.cmdMode, decide (a.type = 3 ∨ a.type = 4 ∨ a.type = 5))], c.2.1 = true → c.2.2 = true →
        ∃ t, Machine.exec c.1 s = .next t ∧ t.sys = s.sys ∧ t.take = s.take
          ∧ (t.lane l).vit.force = (s.lane l).vit.force ++ [e] ∧ (t.lane l).vit.vec = (s.lane l).vit.vec)
  ∧ (∀ (s : Machine.State) (a : ForceArg) (l : LaneId), spliceMode s.cmdMode = true → 1 ≤ a.type.toNat → a.type.toNat ≤ 6 →
      s.rushing = true → (s.lane l).inP0 = true →
      ∃ t, Machine.exec (.forceClear a) s = .next t ∧ t.sys = s.sys ∧ t.take = s.take
        ∧ ∀ f : ForceEntry, (f ∈ (t.lane l).vit.force ↔ f ∈ (s.lane l).vit.force ∧ sameEntry (forceKey a 0) f = false))
  ∧ (∀ (s : Machine.State) (a : ForceArg) (l : LaneId), s.cmdMode ≠ .commissioning → s.rushing = true → (s.lane l).inP0 = true →
      ∃ t, Machine.exec (.forceSet a) s = .next t ∧ s.lanesOnly t ∧ (t.lane l).vit.force = (s.lane l).vit.force
        ∧ (t.lane l).vit.outcomes = (s.lane l).vit.outcomes ++
            [{ kind := .force, seq := 0, item := 0, what := a.target, code := 1, cause := 0 }])

/-- - Coordinator services in P0 (R548): LANE_RESET of a lane that it may start, and LANE_WRAP where R410 holds, are accepted and asked of the
module; AREA_NOTICE with the digest of the committed image is noticed in SETTLING (R297); RESTART in a mode that does not accept it is
REFUSED_MODE (R549).
- RESTART in CUT with the automatic restart withheld takes the module into BOOT (R549, R469). -/
def Obligations.ServicesAreTaken : Prop :=
  ((∀ (s : Machine.State) (n : LaneId), s.rushing = true → s.voice.inP0 = true → n.inMask s.resettable = true →
      ∃ t, Machine.exec (.laneReset n) s = .next t ∧ (t.lane n).stat.resetReq = true ∧ t.sys = s.sys ∧ t.take = s.take)
    ∧ (∀ (s : Machine.State) (n : LaneId), s.rushing = true → s.voice.inP0 = true → s.wrapAllowed = true →
      ∃ t, Machine.exec (.laneWrap n) s = .next t ∧ (t.lane n).stat.wrapReq = true ∧ t.sys = s.sys ∧ t.take = s.take)
    ∧ (∀ (s : Machine.State) (d : BitVec 64) (l : LaneId), s.rushing = true → (s.lane l).inP0 = true →
      (s.lane l).vit.reg.stage = .settling → getBE 64 (s.lane l).data.logDigest 0 8 = d →
      ∃ t, Machine.exec (.areaNotice d) s = .next t ∧ s.lanesOnly t
        ∧ (t.lane l).noticed = true ∧ (t.lane l).vit.reg = (s.lane l).vit.reg)
    ∧ (∀ (s : Machine.State) (l : LaneId), s.sys.mode ≠ .cut → s.sys.mode ≠ .boot → s.rushing = true → (s.lane l).inP0 = true →
      ∃ t, Machine.exec .restart s = .next t ∧ s.lanesOnly t
        ∧ (t.lane l).vit.outcomes = (s.lane l).vit.outcomes ++
            [{ kind := .service, seq := 0, item := 0, what := 0x103, code := 1, cause := 0 }]))
  ∧ (∀ s : Machine.State, s.sys.mode = .cut → s.sys.autoBlocked = true → s.wrap.running = false →
      ∃ t, Machine.exec .restart s = .next t ∧ t.sys.mode = .boot ∧ t.sys.role = .none ∧ t.sys.autoBlocked = false
        ∧ t.take.point = .idle ∧ t.fio.enable = false ∧ t.laneA.store = s.laneA.store ∧ t.laneA.ckptA = s.laneA.ckptA)

/-! ### Splices, lanes and memory -/

/-- - CHECK_SLICE in idle time runs one slice of the check of a lane that has none yet in this take, with the vital state as it was; a lane without
a check, or outside idle time, is not touched (R273, R275).
- SHADOW_LOAD of a lane in idle time that has loaded no portion in this take: one portion more, until all are loaded (R291).
- SPLICE_COMMIT in the boundary work of the commit take: where the check has passed and the hold condition is met, the planes of the set
and the route table swap in one step and the splice is SETTLING; where the hold condition is not met it is refused with LIVE_ROUTE and stays
CHECKED (R293, R294).
- SPLICE_SETTLED: settling ends once it may: the restriction of the set is lifted, no splice is in hand, and the marker is removed (R297,
R300). -/
def Obligations.SpliceWorkOfABoundary : Prop :=
  (∀ (s : Machine.State) (l : LaneId) (k : Check), s.idleLane (s.lane l) = true → (s.lane l).check = some k →
      k.lags (s.lane l).vit.hdr.takeNum = true →
      ∃ t, Machine.exec .checkSlice s = .next t ∧ s.lanesOnly t
        ∧ ∃ r : Option (Byte × BitVec 16), t.lane l = { (s.lane l) with check := some { k with slice := k.slice + 1, result := r } })
  ∧ (∀ (s : Machine.State) (l : LaneId), (s.idleLane (s.lane l) = false ∨ (s.lane l).check = none) →
      ∃ t, Machine.exec .checkSlice s = .next t ∧ s.lanesOnly t ∧ t.lane l = s.lane l)
  ∧ (∀ (s : Machine.State) (l : LaneId) (set : BitVec 16) (i : Image), s.loadSet = some set → s.stagedImage = some i →
      s.idleLane (s.lane l) = true → (s.lane l).mem.loaded < loadTakes set → (s.lane l).mem.loadTake ≠ some (s.lane l).vit.hdr.takeNum →
      ∃ t, Machine.exec (.shadowLoad l) s = .next t ∧ s.laneOnly t l ∧ (t.lane l).mem.loaded = (s.lane l).mem.loaded + 1
        ∧ (t.lane l).mem.loadTake = some (s.lane l).vit.hdr.takeNum ∧ (t.lane l).vit = (s.lane l).vit ∧ (t.lane l).fab = (s.lane l).fab)
  ∧ (∀ (s : Machine.State) (i : Image) (l : LaneId), s.take.point = .deadline → s.sys.mode.runs = true → commitDue s.voice.vit = true →
      s.stagedImage = some i → (s.lane l).evaluates = true → commitDue (s.lane l).vit = true → (s.lane l).vit.reg.stage = .scheduled →
      ∃ t, Machine.exec .spliceCommit s = .next t ∧ t.sys.mode = s.sys.mode ∧ t.take = { s.take with indOld := t.take.indOld }
        ∧ (if (s.lane l).spliceClear = true then
             (t.lane l).vit.reg.active = (s.lane l).vit.reg.active ^^^ (s.lane l).vit.reg.spliceSet
             ∧ (t.lane l).vit.reg.rtActive = !(s.lane l).vit.reg.rtActive ∧ (t.lane l).vit.reg.stage = .settling
             ∧ (t.lane l).vit.reg.regRestrict = (s.lane l).vit.reg.regRestrict
           else (t.lane l).vit.reg = { (s.lane l).vit.reg with stage := .checked, commitTake := 0, sched := false }))
  ∧ (∀ (s : Machine.State) (l : LaneId), s.take.point = .deadline → s.sys.mode.runs = true → s.voice.settled = true →
      (s.lane l).evaluates = true → (s.lane l).settled = true →
      ∃ t, Machine.exec .spliceSettled s = .next t ∧ t.stg = { s.stg with marker := none } ∧ t.take = { s.take with indOld := t.take.indOld }
        ∧ (t.lane l).vit.reg.stage = .none ∧ (t.lane l).vit.reg.spliceSet = 0 ∧ (t.lane l).vit.reg.settle = []
        ∧ (t.lane l).vit.reg.regRestrict = (s.lane l).vit.reg.regRestrict &&& ~~~(s.lane l).vit.reg.spliceSet
        ∧ (t.lane l).vit.vec = (s.lane l).vit.vec)

/-- - LOCKSTEP_BREAK excludes a lane that evaluates with cause LOCKSTEP and counts the exclusion; with three ACTIVE lanes in VITAL the module
goes on in DEGRADED, with two left of two it enters CUT (R11, R231, R248).
- DEBUG_REQUEST outside COMMISSIONING is refused and counted, with no lane touched (R249); in COMMISSIONING it attaches and the lane is
excluded with cause DEBUG (R250, R251); DEBUG_DETACH lets go of the lane and changes nothing else (R252).
- LANE_RECOVERY_READY: an EXCLUDED, supplied lane without a debugger, under no wrap test and with no reload due, restores its state from its
newest checkpoint where record 11 is the recomputed digest and the one recorded at its take, and discards a checkpoint that is not; its
cores run and it is ready for equalization, with its locks released (R236, R557). No other lane changes. -/
def Obligations.LanesLeaveAndReturn : Prop :=
  (∀ (s : Machine.State) (l : LaneId), (s.lane l).evaluates = true →
      ∃ t, Machine.exec (.lockstepBreak l) s = .next t
        ∧ (t.lane l).stat.state = .excluded ∧ (t.lane l).stat.cause = 0x07 ∧ (t.lane l).stat.exclCnt = satInc (s.lane l).stat.exclCnt
        ∧ (∀ k : LaneId, k ≠ l → (t.lane k).stat.state = (s.lane k).stat.state)
        ∧ (s.sys.mode = .vital → (s.lane l).active = true → s.activeCount = 3 → t.sys.mode = .degraded)
        ∧ (s.sys.mode = .degraded → (s.lane l).active = true → s.activeCount = 2 → t.sys.mode = .cut))
  ∧ ((∀ (s : Machine.State) (l : LaneId), s.sys.mode ≠ .commissioning →
      ∃ t, Machine.exec (.debugRequest l) s = .next t ∧ Machine.State.noticed { s with vote := { s.vote with dbgRefused := satInc s.vote.dbgRefused } } t)
    ∧ (∀ (s : Machine.State) (l : LaneId), s.sys.mode = .commissioning → (s.lane l).stat.dbg = false → (s.lane l).evaluates = true →
      ∃ t, Machine.exec (.debugRequest l) s = .next t ∧ (t.lane l).stat.dbg = true ∧ (t.lane l).stat.state = .excluded
        ∧ (t.lane l).stat.cause = 0x08 ∧ (t.lane l).stat.exclTakes = (s.lane l).stat.exclTakes)
    ∧ (∀ (s : Machine.State) (l : LaneId), ∃ t, Machine.exec (.debugDetach l) s = .next t ∧ s.laneOnly t l
        ∧ t.lane l = { (s.lane l) with stat := { (s.lane l).stat with dbg := false } }))
  ∧ (∀ (s : Machine.State) (l : LaneId), (s.lane l).mayRecover = true → s.wrap.running = false → (s.lane l).stat.reload = false →
      ∃ t, Machine.exec (.laneRecoveryReady l) s = .next t
        ∧ (t.lane l).stat.ready = true ∧ (t.lane l).stat.running = true ∧ (t.lane l).stat.resetReq = false ∧ (t.lane l).stat.state = .excluded
        ∧ (∀ k : Checkpoint, (s.lane l).newest = some k → k.digest = vitalDigest k.vital →
            s.vote.slotDig.get l = some (k.vital.hdr.takeNum, k.digest) →
            (t.lane l).vit.vec = k.vital.vec ∧ (t.lane l).vit.hdr = k.vital.hdr ∧ (t.lane l).vit.force = k.vital.force)
        ∧ (∀ k : Checkpoint, (s.lane l).newest = some k → k.digest ≠ vitalDigest k.vital → (t.lane l).newest = none)
        ∧ (∀ h ∈ t.locks, h ≠ some (BitVec.ofNat 3 (l.num + 1)))
        ∧ (∀ k : LaneId, k ≠ l → t.lane k = s.lane k) ∧ t.take = s.take ∧ t.sys = s.sys ∧ t.net = s.net)

/-! ### The rings and telegrams -/

/-- - FRAME_RECEIVE at an integrated node: a frame of another node goes on from the other port where the node does not terminate its streams
(R305, R307); one whose link check fails is counted in CRC_ERR of the ring, and nothing of it acts (R314).
- FRAME_RECEIVE of a session response in its slot, the first of its slot, on a stream in use of an integrated node with a call sheet that
names it: the frame is accepted, counted once, stamped, and waits for the lanes' receive paths (R314 to R318, R338). -/
def Obligations.FramesAreReceived : Prop :=
  (∀ (s : Machine.State) (ring : Ring) (rev : Bool) (slot : BitVec 12) (ofs : Int) (f : Frame),
      s.net.silentDue = false → s.net.sync = .integrated → s.awake = true → s.net.watching = false → linkOk f = false →
      ∃ t, Machine.exec (.frameReceive ring rev slot ofs f) s = .next t
        ∧ (let u : Machine.State := if s.net.terminating = true ∨ hSource f.hdr = s.net.node then s
             else { s with out := s.out ++ [.forward ring rev f] }
           (u.onRing ring fun x => { x with crcErr := satInc x.crcErr }).noticed t))
  ∧ (∀ (s : Machine.State) (ring : Ring) (rev : Bool) (slot : BitVec 12) (ofs : Int) (f : Frame) (e : BitVec 64),
      s.net.silentDue = false → s.net.sync = .integrated → s.awake = true → s.net.watching = false → linkOk f = true →
      hSource f.hdr ≠ s.net.node → headerOk f.hdr = true → hKind f.hdr = 5 → hLen f.hdr = 48 → hSlot f.hdr = slot →
      callEntry s.voice.data slot = some e → s.entryFits e f.hdr = true → ofs.natAbs ≤ 250 → (s.net.ring ring).inUse rev = true →
      ((s.net.ring ring).stream rev).grid = true → ((s.net.ring ring).stream rev).path.toNat ≤ pathLimit →
      s.now.slot = slot → s.now.tick = 0 → (s.frameStamp s.now ring rev ofs).round = s.now.round → s.net.slotRx = [] →
      ∃ t, Machine.exec (.frameReceive ring rev slot ofs f) s = .next t
        ∧ t.net.delivered = s.net.delivered ++ [{ ring := ring, slot := slot, round := s.now.round, stamp := s.frameStamp s.now ring rev ofs,
                                                   frame := f, was := none, gone := false }]
        ∧ t.out = s.out ++ (if s.net.terminating = true then [] else [.forward ring rev f])
        ∧ (t.net.ring ring).rxOk = satInc (s.net.ring ring).rxOk ∧ t.net.noFrame = 0
        ∧ t.take = s.take ∧ t.sys = s.sys ∧ (∀ l : LaneId, t.lane l = s.lane l) ∧ t.fio = s.fio)

/-- - FRAME_SEND: the guardian blocks an insertion in a slot that its copy does not give the module, and every insertion of a node that is not
integrated since an earlier round: no frame goes out, and the insertion is counted as blocked (R332).
- FRAME_SEND in a slot of the module's own with nothing to send: one idle frame goes out on both ports of each ring of the slot (R304, R320).
- FRAME_SEND in slot 0 at the primary time master: its slate goes out on both ports of each ring of the slot (R323, R324). -/
def Obligations.FramesAreSent : Prop :=
  (∀ (s : Machine.State) (slot : BitVec 12), s.net.silentDue = false →
      ((s.inserts = true ∧ s.now.slot = slot ∧ s.now.tick = 0
          ∧ ∀ e : BitVec 64, callEntry s.voice.data slot = some e → s.guardAdmits (csSlot e) = false) ∨ s.barsSlots = true) →
      ∃ t, Machine.exec (.frameSend slot) s = .next t ∧ t.out = s.out ∧ t.net.guardBlk = satInc s.net.guardBlk ∧ t.take = s.take)
  ∧ (∀ (s : Machine.State) (slot : BitVec 12) (e : BitVec 64) (r : Ring) (rs : List Ring), s.net.silentDue = false → s.inserts = true →
      s.now.slot = slot → s.now.tick = 0 → slot ≠ 0 → callEntry s.voice.data slot = some e → s.ownRings e = r :: rs → csKind e = 6 →
      s.pairSlot slot = none →
      ∃ t, Machine.exec (.frameSend slot) s = .next t ∧ t.take = s.take ∧ t.sys = s.sys
        ∧ ∃ fs : List Output, t.out = s.out ++ fs ∧ fs.length = 2 * (r :: rs).length
            ∧ ∀ o ∈ fs, ∃ (q : Ring) (v : Bool) (n : NetTime) (h : BitVec 64),
                o = .frame q v n (mkFrame h (List.replicate 48 0)) ∧ q ∈ r :: rs)
  ∧ (∀ (s : Machine.State) (e : BitVec 64), s.net.silentDue = false → s.inserts = true → s.net.master = true → s.now.slot = 0 →
      s.now.tick = 0 → callEntry s.voice.data 0 = some e → s.ownRings e = [.a, .b] →
      ∃ t, Machine.exec (.frameSend 0) s = .next t ∧ t.take = s.take ∧ t.sys = s.sys
        ∧ ∃ fs : List Output, t.out = s.out ++ fs ∧ fs.length = 4
            ∧ ∀ o ∈ fs, ∃ (q : Ring) (v : Bool) (n : NetTime) (h : BitVec 64), o = .frame q v n (mkFrame h (slateBytes s.ownSlate)))

/-- - TIMING_SET with a good check measures the hop of its port as half of round trip less hold, and carries the path delay on; the port sends a
timing set of its own, with PATH = 0 at the primary time master; HOP_LOST takes the signal and the stream of its port (R306, R308, R309).
- FALL_SILENT where a condition of R331 holds: the node is SILENT, counted, and no time master; where none holds nothing happens.
- SLATE_MISSED at a node that follows slates and has none of the round: SLATE_MISS and the run of misses count, and the next round begins
(R331, R342). -/
def Obligations.RingPortsAndSilence : Prop :=
  ((∀ (s : Machine.State) (ring : Ring) (outPort : Bool) (path : BitVec 24) (hold : BitVec 16) (flags : Byte) (rtt : Nat),
      s.awake = true → bit flags 0 = true → path.toNat + (rtt - hold.toNat) / 2 ≤ pathLimit →
      ∃ t, Machine.exec (.timingSet ring outPort path hold flags (crc8 (timingBytes path hold flags)) rtt) s = .next t
        ∧ (∃ (h : BitVec 16) (f : Byte), t.out =
            (let p : BitVec 24 := if s.net.master = true then 0 else satNat 24 (((s.net.ring ring).stream (!outPort)).path.toNat + 320)
             s.out ++ [.timing ring outPort p h f (crc8 (timingBytes p h f))]))
        ∧ t = { (s.onRing ring fun x =>
            let p := satNat 24 (path.toNat + (rtt - hold.toNat) / 2)
            if outPort then { x with outSignal := true, hopOut := satNat 16 ((rtt - hold.toNat) / 2), rev := { x.rev with path := p } }
            else { x with inSignal := true, hopIn := satNat 16 ((rtt - hold.toNat) / 2), fwd := { x.fwd with path := p } })
          with free := s.free + 1, out := t.out })
    ∧ (∀ (s : Machine.State) (ring : Ring) (outPort : Bool), s.awake = true →
      ∃ t, Machine.exec (.hopLost ring outPort) s = .next t
        ∧ (s.onRing ring fun x =>
            if outPort then { x with outSignal := false, rev := { x.rev with use := false, slates := 0, grid := false } }
            else { x with inSignal := false, fwd := { x.fwd with use := false, slates := 0, grid := false } }).noticed t))
  ∧ ((∀ s : Machine.State, s.net.silentDue = true →
      ∃ t, Machine.exec .fallSilent s = .next t ∧ t.net.sync = .silent ∧ t.net.silentCnt = satInc s.net.silentCnt
        ∧ t.net.master = false ∧ t.net.runSlates = 0 ∧ (s.sys.mode = .integrating → t.sys.mode = .ready))
    ∧ ∀ s : Machine.State, s.net.silentDue = false → Machine.exec .fallSilent s = .next s)
  ∧ (∀ s : Machine.State, s.net.sync = .integrated → s.net.master = false → s.net.handover = none →
      (s.net.lastSlate.map (·.round)) ≠ some s.now.round →
      ∃ t, Machine.exec .slateMissed s = .next t ∧ t.net.slateMiss = satInc s.net.slateMiss ∧ t.net.missRun = s.net.missRun + 1
        ∧ t.net.runSlates = 0 ∧ t.net.drift = 0 ∧ t.net.slateSrc = 3 ∧ t.now = NetTime.atRound (s.now.round + 1))

/-- Cold start: COLD_LISTEN_END and BACKOFF_END send a COLD_SLATE on both ports of both rings and watch for contention; STARTER makes the node primary time
master from its next slot 0, integrated and terminating; TERMINATION_END ends the termination of a node that is no master (R307, R333 to
R335). -/
def Obligations.ColdStart : Prop :=
  (∀ s : Machine.State, s.net.sync = .listening → s.net.watching = false → s.awake = true →
    ∃ t, Machine.exec .coldListenEnd s = .next t ∧ t.net.watching = true ∧ t.net.sync = .listening
      ∧ t.out.length = s.out.length + 4 ∧ t.sys = s.sys ∧ t.take = s.take)
  ∧ (∀ s : Machine.State, s.net.sync = .backingOff → s.awake = true →
    ∃ t, Machine.exec .backoffEnd s = .next t ∧ t.net.watching = true ∧ t.net.sync = .listening
      ∧ t.now = NetTime.atRound (s.now.round + BitVec.ofNat 40 (1 + (s.net.node.toNat + 7) / 8)) ∧ t.out.length = s.out.length + 4)
  ∧ (∀ s : Machine.State, s.net.watching = true → s.awake = true →
    ∃ t, Machine.exec .starter s = .next t ∧ t.net.watching = false ∧ t.net.sync = .integrated ∧ t.net.starter = true
      ∧ t.net.master = true ∧ t.net.terminating = true ∧ t.now = NetTime.atRound (s.now.round + 1))
  ∧ (∀ s : Machine.State, s.net.terminating = true → s.net.master = false → s.now.slot = 400 → s.now.tick = 0 →
    ∃ t, Machine.exec .terminationEnd s = .next t ∧ t = { s with net := { s.net with terminating := false } })

/-- - PAYLOAD_DEADLINE for a session that the module sends for, with no lane late: each lane that evaluates has its telegram ready, from the latch
of the take in which its slot lies, with its check unit's transmit port run over it; no lane leaves voting (R35, R355, R357, R358, R359).
- SES_RX takes the oldest delivered frame; the receive path of a lane under power whose session is disabled counts nothing of it, and one
that passes all checks of an object session is held with its element data and the session seen (R361). -/
def Obligations.TelegramsGoAndCome : Prop :=
  (∀ (s : Machine.State) (n : SesId) (p : Bytes) (l : LaneId), s.sys.mode.runs = true → (sesRecOf s.voice.vit.ses n).enabled = true →
      let at_ := s.slotTime (sesCmdSlot (sesEntry s.voice.data n))
      let next := s.inNextTake at_
      (if next = true then bit s.pair.outWord 5 else s.pair.sending) = true → (s.lane l).evaluates = true →
      latchTelegram (if next = true then (s.lane l).vit.latch else (s.lane l).eff) n (field at_.round 0 32) = some p →
      ∃ t, Machine.exec (.payloadDeadline n 0) s = .next t ∧ t.sys = s.sys ∧ t.take = s.take
        ∧ (n, p) ∈ (t.lane l).txBuf ∧ (t.lane l).accTx = (p.take 44).foldl (crcByte castagnoli) crcInit
        ∧ ∀ k : LaneId, (t.lane k).stat = (s.lane k).stat ∧ (t.lane k).vit = (s.lane k).vit)
  ∧ (∀ (s : Machine.State) (f : SlotRx) (rest : List SlotRx), s.net.delivered = f :: rest →
      ∃ t, Machine.exec .sesRx s = .next t ∧ t.net.delivered = rest ∧ t.take.num = s.take.num ∧ t.take.point = s.take.point
        ∧ ∀ l : LaneId, s.receives l = true →
            let n : SesId := ((callEntry (s.lane l).data f.slot).map csSes).getD 0
            ((s.lane l).rxVerdict n f = .disabled → (t.lane l).rx = (s.lane l).rx)
            ∧ ((s.lane l).rxVerdict n f = .codeErr → (rxOf (t.lane l).rx n).codeErr = satInc (rxOf (s.lane l).rx n).codeErr
                ∧ (rxOf (t.lane l).rx n).frame = (rxOf (s.lane l).rx n).frame)
            ∧ ((s.lane l).rxVerdict n f = .held → (rxOf (t.lane l).rx n).ever = true ∧ (rxOf (t.lane l).rx n).rxOk = satInc (rxOf (s.lane l).rx n).rxOk))

/-- - The check units: CHECK_START loads all ones, CHECK_FEED runs CRC-32C over the bytes of the write, most significant first, and CHECK_RESULT
answers the finished code; each changes nothing else (R354 to R356).
- A telegram fed to a transmit check unit after CHECK_START byte by byte gives the CRC-32C of its bytes (R354, R355). -/
def Obligations.CheckUnitsGiveTheCode : Prop :=
  ((∀ (s : Machine.State) (l : LaneId) (rx : Bool), ∃ t, Machine.exec (.checkStart l rx) s = .next t ∧ s.laneOnly t l
      ∧ t.lane l = (if rx then { (s.lane l) with accRx := 0xFFFFFFFF } else { (s.lane l) with accTx := 0xFFFFFFFF }))
    ∧ (∀ (s : Machine.State) (l : LaneId) (rx : Bool) (size : FeedSize) (v : Word),
      ∃ t, Machine.exec (.checkFeed l rx size v) s = .next t ∧ s.laneOnly t l
        ∧ (let w := (feedBytes size v).foldl (crcByte castagnoli) (if rx then (s.lane l).accRx else (s.lane l).accTx)
           t.lane l = (if rx then { (s.lane l) with accRx := w } else { (s.lane l) with accTx := w })))
    ∧ (∀ (s : Machine.State) (l : LaneId) (rx : Bool), ∃ t, Machine.exec (.checkResult l rx) s = .next t
      ∧ t = { s with bus := .data ((if rx then (s.lane l).accRx else (s.lane l).accTx) ^^^ 0xFFFFFFFF) }))
  ∧ (∀ (s : Machine.State) (l : LaneId) (p : Bytes),
      let fed := p.foldl (fun (a : Machine.State) b => match Machine.exec (.checkFeed l false .byte (b.zeroExtend 32)) a with
        | .next t => t
        | _ => a) (s.onLane l fun x => { x with accTx := 0xFFFFFFFF })
      ∃ t, Machine.exec (.checkResult l false) fed = .next t ∧ t.bus = .data (crc32c p))

/-! ### Lead, second and witness -/

/-- - The pair link: a valid HEARTBEAT names the partner and its mode and takes the link down where the partner's receive side is down;
PAIR_LINK_DOWN clears LINK_UP, flags and counts it; PAIR_LINK_UP sets it while both directions receive (R381, R382).
- The messages of the pair link while it is up (R382, R383): the partner's DIGEST of the running take is kept for L (R387), AGREE is kept
(R388), the lead takes the second's request for a take length (R49), and the second a RESIGN (R398). -/
def Obligations.PairLinkAndItsMessages : Prop :=
  ((∀ (s : Machine.State) (node : NodeId) (mode : BitVec 4) (rxUp : Bool), s.awake = true →
      ∃ t, Machine.exec (.heartbeat node mode rxUp true) s = .next t ∧ t.pair.partner = node ∧ t.pair.partMode = mode
        ∧ t.pair.rxUp = true ∧ t.pair.partRxUp = rxUp ∧ t.pair.linkUp = (s.pair.linkUp && rxUp) ∧ t.take = s.take ∧ t.sys = s.sys
        ∧ t.out = s.out ++ [.heartbeat s.net.node s.sys.mode.code true])
    ∧ (∀ s : Machine.State, s.pair.linkUp = true →
      ∃ t, Machine.exec .pairLinkDown s = .next t ∧ t.pair.linkUp = false ∧ t.pair.linkDownCnt = satInc s.pair.linkDownCnt
        ∧ bit t.flags.pair 0 = true ∧ t.take = s.take ∧ t.sys = s.sys ∧ t.net = s.net)
    ∧ (∀ s : Machine.State, s.awake = true → s.pair.rxUp = true → s.pair.partRxUp = true →
      ∃ t, Machine.exec .pairLinkUp s = .next t ∧ t = { s with pair := { s.pair with linkUp := true } }))
  ∧ ((∀ (s : Machine.State) (take claim : Word) (d : Quad), s.linkUses true = true → s.takesRun = true → s.sys.role = .second →
      ∃ t, Machine.exec (.digest .link s.pair.partner take claim d true) s = .next t
        ∧ Machine.State.noticed { s with pair := { s.pair with partDig := s.pair.partDig ++ [{ src := .link, take := take, digest := d }] } } t)
    ∧ (∀ (s : Machine.State) (take : Word) (d : Quad), s.linkUses true = true → s.sys.role = .second →
      ∃ t, Machine.exec (.agree take d true) s = .next t ∧ Machine.State.noticed { s with pair := { s.pair with agreeRcvd := some (take, d) } } t)
    ∧ (∀ (s : Machine.State) (n : BitVec 6), s.linkUses true = true → s.sys.role = .lead → s.pair.demoted = false →
      ∃ t, Machine.exec (.tlen n true) s = .next t ∧ Machine.State.noticed { s with take := { s.take with partReq := some n, partNew := true } } t)
    ∧ (∀ (s : Machine.State) (n : NodeId), s.linkUses true = true → s.sys.role = .second → n ≠ s.net.node →
      ∃ t, Machine.exec (.resign n true) s = .next t ∧ Machine.State.noticed { s with pair := { s.pair with resigned := true } } t))

/-- - The lead that holds its own digest of the running take answers an equal DIGEST of its second on the link with AGREE, once (R387).
- A valid HEALTH on the pair link is the partner's report (R405); DEMOTE to the own node, and a report of the lead that says so, return a
second that runs takes to INTEGRATING without telegrams (R408). -/
def Obligations.AgreementAndDemotion : Prop :=
  (∀ (s : Machine.State) (claim : Word) (d : Quad), s.linkUses true = true → s.takesRun = true → s.sys.role = .lead →
      s.pair.demoted = false → s.pair.agreeSent = false → s.pair.ownDig = some d → s.take.point = .exchanged →
      ∃ t, Machine.exec (.digest .link s.pair.partner s.take.num claim d true) s = .next t
        ∧ t.pair.agreeSent = true ∧ t.out = s.out ++ [.agree s.take.num d])
  ∧ ((∀ (s : Machine.State) (p : Bytes), s.linkUses true = true → checkedPayload p = true → p.getD 0 0 = 2 → bit (p.getD 16 0) 7 = false →
      ∃ t, Machine.exec (.health .link p) s = .next t ∧ t.pair.partReport = p ∧ t.pair.partSeen = true
        ∧ t.pair.partMode = field (p.getD 1 0) 0 4 ∧ t.sys = s.sys ∧ t.take = s.take)
    ∧ (∀ s : Machine.State, s.linkUses true = true → s.sys.role = .second → s.sys.mode.runs = true →
      ∃ t, Machine.exec (.demote s.net.node true) s = .next t ∧ t.sys.mode = .integrating ∧ t.pair.demoted = true
        ∧ t.pair.sending = false ∧ t.fio.enable = false ∧ t.sys.vitalEn = false))

/-- - EQUAL while INTEGRATING, asked for, with a digest that its content has: every lane that evaluates holds the lead's vital state as SECOND,
and the module's take header follows the lead's (R417).
- LEAD_RESIGN_TIMEOUT: a lead that has heard no ring for its three rounds resigns: it stops sending and says so (R402). PARTNER_LOST at slot
2776: the loss counts and a grant that was made before does not stand (R397, R403). WITNESS_LOST: 8 rounds without a broadcast (R403). -/
def Obligations.EqualizationAndLosses : Prop :=
  (∀ (s : Machine.State) (v : Vital), s.linkUses true = true → s.sys.mode = .integrating → s.pair.loaded = false →
      ∃ t, Machine.exec (.equal v (vitalDigest v) true) s = .next t ∧ t.pair.loaded = true ∧ t.sys.role = .second
        ∧ t.sys.mode = .integrating ∧ t.take.num = v.hdr.takeNum ∧ t.take.nCur = v.hdr.nCur
        ∧ ∀ l : LaneId, (s.lane l).evaluates = true → (t.lane l).vit = { v with hdr := { v.hdr with role := .second } })
  ∧ ((∀ s : Machine.State, s.sys.role = .lead → s.sys.mode.runs = true → s.pair.linkUp = true → 4 ≤ s.net.noFrame → s.pair.resigned = false →
      ∃ t, Machine.exec .leadResignTimeout s = .next t ∧ t.pair = { s.pair with resigned := true, sending := false }
        ∧ t.out = s.out ++ [.resign s.net.node] ∧ bit t.flags.pair 10 = true ∧ t.take = s.take)
    ∧ (∀ s : Machine.State, s.now.slot = 2776 → s.now.tick = 0 → s.pair.unseen = true → s.claims = true → s.pair.lost = false →
      s.pair.partner ≠ 0 →
      ∃ t, Machine.exec .partnerLost s = .next t
        ∧ t.pair = { s.pair with lost := true, granted := false, lostCnt := satInc s.pair.lostCnt } ∧ bit t.flags.pair 4 = true
        ∧ t.take = s.take ∧ t.sys = s.sys)
    ∧ (∀ s : Machine.State, s.claims = true → 8 ≤ s.pair.witRounds →
      ∃ t, Machine.exec .witnessLost s = .next t ∧ Machine.State.noticed { s with pair := { s.pair with witnessSeen := false } } t
        ∧ bit t.flags.pair 9 = true))

/-- - WITNESS_BROADCAST with a good check: its holder and claim are known; a computing module takes the claim, and is LEAD exactly where it is
the holder (R389, R390). One with a bad check changes nothing.
- WITNESS_DECIDE: with one requester, listed, and the holder silent, the requester becomes holder under the next claim if the store takes it,
and not otherwise; without a request nothing is granted and claim and holder stand (R391, R392). -/
def Obligations.WitnessGivesTheRole : Prop :=
  ((∀ (s : Machine.State) (p : Bytes), checkedPayload p = true → p.getD 0 0 = 1 → s.claims = true →
      ∃ t, Machine.exec (.witnessBroadcast p) s = .next t ∧ t.pair.witClaim = getBE 32 p 4 4 ∧ t.pair.witHolder = getBE 12 p 8 2
        ∧ t.pair.claim = getBE 32 p 4 4 ∧ t.pair.usable = true
        ∧ t.sys.role = (if (getBE 12 p 8 2 : NodeId) = s.net.node then .lead else .second) ∧ t.sys.mode = s.sys.mode)
    ∧ ∀ (s : Machine.State) (p : Bytes), checkedPayload p = false → Machine.exec (.witnessBroadcast p) s = .next s)
  ∧ ((∀ (s : Machine.State) (g : BitVec 2) (p : Bytes), s.sys.mode = .witness → s.wit.reports = [(g, p)] → reportRequests p = true →
      reportNode p ≠ 0 → reportNode p ≠ s.wit.holder → (compNodes s.voice.data.witness).contains (reportNode p) = true →
      ∃ t, Machine.exec (.witnessDecide true) s = .next t ∧ t.wit.claim = s.wit.claim + 1 ∧ t.wit.holder = reportNode p ∧ t.wit.grant = true
        ∧ t.wit.req1 = reportNode p ∧ t.wit.res1 = 0 ∧ t.wit.reports = []
        ∧ ∀ l : LaneId, (s.lane l).active = true → (t.lane l).witStore = some (s.wit.claim + 1, reportNode p))
    ∧ (∀ (s : Machine.State) (ok : Bool), s.sys.mode = .witness → (∀ e ∈ s.wit.reports, reportRequests e.2 = false) →
      ∃ t, Machine.exec (.witnessDecide ok) s = .next t ∧ t.wit.claim = s.wit.claim ∧ t.wit.holder = s.wit.holder ∧ t.wit.grant = false
        ∧ t.laneA = s.laneA ∧ t.laneB = s.laneB ∧ t.laneC = s.laneC))

/-- - SELF_TEST: a test whose turn it is marks itself done; a failed one makes the report BAD and flags it; with a pass only the pair state
changes (R404, R405).
- WRAP_START_DECISION: where R410 allows it and no wrap command waits, the coordinator queues LANE_WRAP for the next lane of the cycle;
nothing else changes (R410, R411). -/
def Obligations.SelfTestsAndWrapCycle : Prop :=
  (∀ (s : Machine.State) (i : BitVec 3) (pass : Bool), s.sys.mode.runs = true → s.take.num.toNat % 8 = i.toNat →
      (i = 4 → s.sys.mode ≠ .degraded) →
      ∃ t, Machine.exec (.selfTest i pass) s = .next t
        ∧ Machine.State.noticed { s with pair := { s.pair with
              stAges := s.pair.stAges.set i.toNat 0, stDone := setBit s.pair.stDone i.toNat true
              stFail := setBit s.pair.stFail i.toNat (!pass), bad := s.pair.bad || !pass } } t
        ∧ (pass = false → bit t.flags.pair 11 = true))
  ∧ (∀ s : Machine.State, s.coordUp = true → s.wrapAllowed = true → s.pair.cycleOn = false → s.port.locals = [] →
      ∃ t, Machine.exec .wrapStartDecision s = .next t ∧ (∃ m : LocalMsg, t = { s with port := { s.port with locals := [m] } }
        ∧ field (mbxWord m.words 0) 0 16 = 0x102#16 ∧ (mbxWord m.words 8) = s.pair.cycleNext.zeroExtend 32))

/-! ### Modes and supply -/

/-- - STAND-IN: STANDIN_TIMEOUT in READY with STANDIN_EN and no holder on the link runs the module wrap and withholds (R414); CUE becoming active
in STAND-IN takes the module into BOOT (R415).
- The supply returns and the module starts: POWER_ON from OFF enters BOOT in the next supply cycle with every rail in its window;
RELOAD_DONE after a module wrap whose vital part passed enters VERIFY; CUT_RESTART from CUT enters BOOT unless it is blocked (R469, R470,
R611, R634). -/
def Obligations.StartsReachTheirMode : Prop :=
  ((∀ s : Machine.State, s.sys.mode = .ready → s.pwr.standinEn = true → s.wrap.running = false → s.linkHolder = false →
      ∃ t, Machine.exec .standinTimeout s = .next t ∧ t.wrap.running = true ∧ t.wrap.why = .standIn ∧ t.wrap.slice = 0
        ∧ t.pair.withhold = true ∧ t.sys.mode = .ready)
    ∧ (∀ s : Machine.State, s.sys.mode = .standIn → s.pwr.cue = false →
      ∃ t, Machine.exec .cueEdge s = .next t ∧ t.sys.mode = .boot ∧ t.pwr.cue = true ∧ t.take.point = .idle))
  ∧ ((∀ s : Machine.State, s.sys.mode = .off →
      ∃ t, Machine.exec .powerOn s = .next t ∧ t.sys.mode = .boot ∧ t.wrap.cycle = s.wrap.cycle + 1 ∧ t.pwr.lastFail = false
        ∧ t.take.point = .idle ∧ t.net.node = Config.nodeId)
    ∧ (∀ s : Machine.State, s.sys.mode = .boot → s.coordUp = true → s.wrap.running = false → s.wrap.module = 1 → s.wrap.moduleOk = true →
      s.stg.copyOpen = false →
      ∃ t, Machine.exec .reloadDone s = .next t ∧ t.sys.mode = .verify ∧ t.stg = s.stg ∧ t.take = s.take)
    ∧ (∀ s : Machine.State, s.sys.mode = .cut → s.sys.autoBlocked = false → s.wrap.running = false →
      ∃ t, Machine.exec .cutRestart s = .next t ∧ t.sys.mode = .boot ∧ t.sys.autoStart = true ∧ t.sys.role = .none))

/-- - VERIFY_COMPLETE judges every lane that is not EXCLUDED by its own verification: a lane that passes is ACTIVE, one that fails is UNUSABLE
(the model's choice, log 31). With fewer than two lanes, or with a lane whose check of the module vital enable finds something, the module stays
in VERIFY; otherwise it becomes READY, or WITNESS with a witness image (R469, R473).
- RESTART_SETTLE_END in a started take whose settle period has run ends the period, and changes nothing else (R478). -/
def Obligations.VerifyJudgesLanes : Prop :=
  (∀ s : Machine.State, s.sys.mode = .verify → ∃ t, Machine.exec .verifyComplete s = .next t
      ∧ (∀ l : LaneId, (s.lane l).stat.state ≠ .excluded →
          (t.lane l).stat.state = if ((s.lane l).verifySelf l s.stg.station).2 = true then .active else .unusable)
      ∧ (let ls := LaneId.all.filter fun l => decide ((s.lane l).stat.state ≠ .excluded) && ((s.lane l).verifySelf l s.stg.station).2
         let found : Bool := ls.any fun l =>
           ((((s.lane l).verifySelf l s.stg.station).1.onStat fun x => { x with state := .active }).verifyCheck l s.stg.station).isSome
         t.sys.mode = if ls.length < 2 ∨ found = true then .verify
           else if manKind (newestManifest s.stg.station) = 4 then .witness else .ready))
  ∧ (∀ s : Machine.State, s.take.point = .started → s.sys.settling = true → s.sys.settleLeft = 0 →
      ∃ t, Machine.exec .restartSettleEnd s = .next t ∧ t = { s with sys := { s.sys with settling := false } })

/-- - The feeds and the supply bus: FEED_LOST and FEED_RESTORED follow their feed, the loss with its flag; SUPPLY_DIP counts; POWER_FAIL takes the
module to OFF, where it counts as the last thing that happened and no output is commanded (R608, R609, R610).
- The hold-up: charged with a measurement of at least 60 ms it is good; a measurement below clears HOLDUP_OK and is flagged (R611, R612).
- Rails and temperature of a lane: a rail out of its window, or the thermal shutdown, excludes a lane that evaluates with cause SUPPLY and flags it;
RAIL_RECOVER and THERMAL_RESTART lift what they name (R231, R614, R615). -/
def Obligations.SupplyAndHeat : Prop :=
  ((∀ (s : Machine.State) (b : Bool), s.supplied = true → ∃ t, Machine.exec (.feedLost b) s = .next t
      ∧ t.pwr.feedAOk = (s.pwr.feedAOk && b) ∧ t.pwr.feedBOk = (s.pwr.feedBOk && !b) ∧ bit t.flags.pwr (if b then 1 else 0) = true
      ∧ t.sys = s.sys ∧ t.take = s.take)
    ∧ (∀ (s : Machine.State) (b : Bool), ∃ t, Machine.exec (.feedRestored b) s = .next t
      ∧ t.pwr.feedAOk = (s.pwr.feedAOk || !b) ∧ t.pwr.feedBOk = (s.pwr.feedBOk || b) ∧ t.sys = s.sys ∧ t.take = s.take)
    ∧ (∀ s : Machine.State, s.supplied = true → ∃ t, Machine.exec .supplyDip s = .next t
      ∧ Machine.State.noticed { s with pwr := { s.pwr with dips := satInc s.pwr.dips } } t ∧ bit t.flags.pwr 2 = true)
    ∧ (∀ s : Machine.State, s.sys.mode ≠ .off → ∃ t, Machine.exec .powerFail s = .next t ∧ t.sys.mode = .off
      ∧ t.pwr.fails = satInc s.pwr.fails ∧ t.pwr.lastFail = true ∧ t.fio.enable = false ∧ t.pair.sending = false ∧ t.take.point = .idle
      ∧ t.pwr.holdupOk = false))
  ∧ ((∀ (s : Machine.State) (v : BitVec 10) (n : BitVec 12), s.supplied = true → n.toNat < 600 →
      ∃ t, Machine.exec (.holdupMeasure n v) s = .next t ∧ t.pwr.holdupOk = false ∧ t.pwr.time = n ∧ t.pwr.vcap = v ∧ t.pwr.measured = true
        ∧ bit t.flags.pwr 4 = true ∧ t.sys = s.sys)
    ∧ (∀ (s : Machine.State) (v : BitVec 10) (n : BitVec 12), s.supplied = true → 600 ≤ n.toNat → s.pwr.charged = true →
      ∃ t, Machine.exec (.holdupMeasure n v) s = .next t ∧ t.pwr.holdupOk = true ∧ t.pwr.time = n ∧ t.pwr.vcap = v)
    ∧ (∀ s : Machine.State, s.supplied = true → s.pwr.measured = true → 600 ≤ s.pwr.time.toNat →
      ∃ t, Machine.exec .holdupCharged s = .next t ∧ t.pwr.charged = true ∧ t.pwr.holdupOk = true
        ∧ (s.sys.mode = .ready → s.net.sync = .integrated → s.wrap.running = false → t.sys.mode = .integrating)))
  ∧ ((∀ (s : Machine.State) (l : LaneId) (w : BitVec 4), s.supplied = true → (s.lane l).stat.domainOn = true → w ≠ 0xF → (s.lane l).evaluates = true →
      ∃ t, Machine.exec (.railOut l w) s = .next t ∧ (t.lane l).stat.state = .excluded ∧ (t.lane l).stat.cause = 0x0B ∧ (t.lane l).rails = w
        ∧ (t.lane l).railCnt = satInc (s.lane l).railCnt ∧ bit t.flags.pwr 5 = true)
    ∧ (∀ (s : Machine.State) (l : LaneId), s.supplied = true → (s.lane l).thermal = false → (s.lane l).evaluates = true →
      ∃ t, Machine.exec (.thermalShutdown l) s = .next t ∧ (t.lane l).thermal = true ∧ (t.lane l).rails = 0 ∧ (t.lane l).stat.state = .excluded
        ∧ bit t.flags.pwr 6 = true)
    ∧ (∀ (s : Machine.State) (l : LaneId), s.supplied = true → (s.lane l).thermal = false →
      ∃ t, Machine.exec (.railRecover l) s = .next t ∧ t = s.setLane l { (s.lane l) with rails := 0xF })
    ∧ (∀ (s : Machine.State) (l : LaneId), ∃ t, Machine.exec (.thermalRestart l) s = .next t ∧ t = s.setLane l { (s.lane l) with thermal := false })
    ∧ (∀ (s : Machine.State) (i : BitVec 3) (r old top : BitVec 16), s.supplied = true → i.toNat < 6 → s.pwr.temps[i.toNat]? = some (old, top) →
      850 ≤ r.toInt →
      ∃ t, Machine.exec (.tempHigh i r) s = .next t ∧ bit t.flags.pwr 7 = true
        ∧ t.pwr.temps = s.pwr.temps.set i.toNat (r, if top.toInt < r.toInt then r else top) ∧ t.sys = s.sys ∧ t.take = s.take))

/-- LINE_MISMATCH flags a sense that differs from the line's command, and only then (R620); INTRUSION erases the device key (R627); the
enrolment: ENROL opens it in READY, KEYGEN makes a key and asks for a certificate, the certificate completes it, a key slot is written in every
lane, and the end of the 600 s closes it (R263, R628). -/
def Obligations.LinesAndSecurity : Prop :=
  (∀ (s : Machine.State) (w : BitVec 4), s.supplied = true → w ≠ s.lines → ∃ t, Machine.exec (.lineMismatch w) s = .next t
    ∧ Machine.State.noticed { s with pwr := { s.pwr with sense := w ^^^ s.lines } } t ∧ bit t.flags.pwr 11 = true)
  ∧ (∀ s : Machine.State, ∃ t, Machine.exec .intrusion s = .next t ∧ t.pwr.devKey = false ∧ t.pwr.intruded = true
    ∧ (s.supplied = true → bit t.flags.pwr 9 = true) ∧ t.sys = s.sys ∧ t.take = s.take)
  ∧ (∀ s : Machine.State, s.sys.mode = .ready → ∃ t, Machine.exec .enrolSwitch s = .next t
    ∧ t = { s with pwr := { s.pwr with enrolOpen := true } })
  ∧ (∀ s : Machine.State, ∃ t, Machine.exec .enrolClose s = .next t ∧ t = { s with pwr := { s.pwr with enrolOpen := false } })
  ∧ (∀ s : Machine.State, s.enrols = true → ∃ t, Machine.exec .enrolKeygen s = .next t
    ∧ t = { s with pwr := { s.pwr with devKey := true, devCert := none }, out := s.out ++ [.certRequest] })
  ∧ (∀ (s : Machine.State) (c : Cert), s.enrols = true → s.pwr.devKey = true → ∃ t, Machine.exec (.enrolCert c) s = .next t
    ∧ t.pwr.devCert = some c ∧ t.pwr.intruded = false ∧ bit t.flags.pwr 10 = true ∧ t.sys = s.sys)
  ∧ (∀ (s : Machine.State) (k : BitVec 2) (key : Option (BitVec 256)), s.enrols = true → ∃ t, Machine.exec (.enrolKeyslot k key true) s = .next t
    ∧ s.lanesOnly t ∧ ∀ l : LaneId, t.lane l = { (s.lane l) with keys := (s.lane l).keys.set k.toNat key })

/-! ### Field I/O -/

/-- - FIELD_SNAPSHOT in a started take: every pin's filtered values and fault code are captured, the lanes in `good` hold the copy, and the run
of eight snapshots in which X and Y of an input differ gives DIVERGENCE to a pin without a fault code (R433, R435).
- FIELD_READBACK of one single-ended output whose reading fits its command: the supply of its group and its reading are taken (R446, R452);
a step of the field side in between takes does nothing. -/
def Obligations.SnapshotAndReadback : Prop :=
  (∀ (s : Machine.State) (good : LaneMask), s.take.point = .started →
      ∃ t, Machine.exec (.fieldSnapshot good) s = .next t ∧ t.fio.snapOk = true ∧ t.fio.fsAlive = true
        ∧ (∀ l : LaneId, (t.lane l).snap = l.inMask good) ∧ t.take = s.take ∧ t.sys = s.sys
        ∧ ∀ (i : Nat) (x : PinSt), i < 48 → s.fio.pins[i]? = some x → ∃ y : PinSt, t.fio.pins[i]? = some y
            ∧ y.snapX = x.outX ∧ y.snapY = x.outY ∧ y.snapFault = x.fault ∧ y.count = x.count
            ∧ (pinInput s.voice.data (i + 1) = true → x.outX ≠ x.outY → x.differ = 7 → x.fault = 0 → y.fault = 1)
            ∧ (pinInput s.voice.data (i + 1) = false → y.fault = x.fault))
  ∧ ((∀ (s : Machine.State) (r : Reading) (x : Supply) (p : PinSt) (g : GroupSt), s.take.point = .rushed →
      (s.take.start.plus 50000).ticks ≤ s.now.ticks → pinMode s.voice.data r.pin.toNat = 3#3 → 1 ≤ r.pin.toNat →
      s.fio.pins[r.pin.toNat - 1]? = some p → 1 ≤ x.group.toNat → s.fio.groups[x.group.toNat - 1]? = some g →
      ∃ t, Machine.exec (.fieldReadback [r] [x]) s = .next t
        ∧ t.fio.pins = s.fio.pins.set (r.pin.toNat - 1) { p with reading := r }
        ∧ t.fio.groups = s.fio.groups.set (x.group.toNat - 1) { g with volt := x.volt, curr := x.curr }
        ∧ t.take = s.take ∧ t.sys = s.sys ∧ t.pair = s.pair)
    ∧ ∀ (s : Machine.State) (rs : List Reading) (xs : List Supply), s.take.point = .deadline →
        Machine.exec (.fieldReadback rs xs) s = .next s)

/-- - Supervision of an energized channel: OVERCURRENT and SHORT_LOAD give both of its pins their code and hold the channel off, with the flag
of R463; no other pin changes (R448, R449).
- GROUP_OVERLOAD of a group with an energized channel holds every channel of the group off that has no fault code which does so; and
DETECTOR_PROOF gives an energized channel whose comparator failed its code (R448, R450).
- OFF_CHANNEL_PROBE of a channel that is off and does not read off: the result of the probe gives its code, and FOREIGN or TIED is flagged
(R451). -/
def Obligations.ChannelFaultsOpenChannels : Prop :=
  (∀ (s : Machine.State) (pin : Pin), s.isChannel (oddPin pin.toNat) = true → s.isOn (oddPin pin.toNat) = true →
      ∀ c ∈ [(Instr.overcurrent pin, 5#4), (Instr.shortLoad pin, 6#4)],
        ∃ t, Machine.exec c.1 s = .next t ∧ bit t.flags.fio 4 = true ∧ t.take = s.take ∧ t.sys = s.sys ∧ t.laneA.vit = s.laneA.vit
          ∧ ∀ (i : Nat) (x : PinSt), s.fio.pins[i]? = some x →
              t.fio.pins[i]? = some (if i + 1 = oddPin pin.toNat ∨ i = oddPin pin.toNat then { x with fault := c.2, off := true } else x))
  ∧ ((∀ (s : Machine.State) (g : BitVec 3), (s.groupChannels g.toNat).any s.isOn = true →
      ∃ t, Machine.exec (.groupOverload g) s = .next t ∧ bit t.flags.fio 4 = true ∧ t.sys = s.sys ∧ t.take = s.take
        ∧ ∀ p ∈ s.groupChannels g.toNat, faultRestricts (s.pin p).fault = false → p ≤ s.fio.pins.length →
            (t.pin p).fault = 7 ∧ (t.pin p).off = true)
    ∧ (∀ (s : Machine.State) (pin : Pin), s.isChannel (oddPin pin.toNat) = true → s.isOn (oddPin pin.toNat) = true →
      oddPin pin.toNat ≤ s.fio.pins.length →
      ∃ t, Machine.exec (.detectorProof [pin] 0) s = .next t ∧ bit t.flags.fio 5 = true ∧ t.sys = s.sys
        ∧ (t.pin (oddPin pin.toNat)).fault = 8 ∧ (t.pin (oddPin pin.toNat)).off = true))
  ∧ (∀ (s : Machine.State) (pin : Pin),
      let p := oddPin pin.toNat
      s.isChannel p = true → s.isOn p = false → (s.pin p).reading.pin.toNat = p → readsOff (s.pinVolt p) (s.pin p).reading = false →
      faultRestricts (s.pin p).fault = false → p ≤ s.fio.pins.length →
      ∀ c ∈ [(ProbeResult.supply, 2#4), (ProbeResult.zero, 3#4)],
        ∃ t, Machine.exec (.offChannelProbe pin c.1) s = .next t ∧ (t.pin p).fault = c.2 ∧ (t.pin p).off = true ∧ bit t.flags.fio 2 = true
          ∧ t.sys = s.sys ∧ t.take = s.take)

/-- - GROUP_SAG holds the channels of the group off at once and flags it; SAG_RECOVER clears the flag of the group but leaves its channels held
until the next take start (R455, R456).
- FILTER_TICK counts the accumulators of X and Y up to FILT_N or down to 0, and an output follows only at a limit; FILTERED_INPUT_CHANGE takes
an input's output to its new level (R432). -/
def Obligations.GroupsAndFilters : Prop :=
  ((∀ (s : Machine.State) (g : BitVec 3) (x : GroupSt), 1 ≤ g.toNat → g.toNat ≤ 6 → s.fio.groups[g.toNat - 1]? = some x → x.sag = false →
      ∃ t, Machine.exec (.groupSag g) s = .next t ∧ t.fio.groups = s.fio.groups.set (g.toNat - 1) { x with sag := true, held := true }
        ∧ bit t.flags.fio 0 = true ∧ t.fio.pins = s.fio.pins ∧ t.sys = s.sys ∧ t.take = s.take)
    ∧ (∀ (s : Machine.State) (g : BitVec 3) (x : GroupSt), 1 ≤ g.toNat → s.fio.groups[g.toNat - 1]? = some x → x.sag = true →
      ∃ t, Machine.exec (.sagRecover g) s = .next t
        ∧ Machine.State.noticed { s with fio := { s.fio with groups := s.fio.groups.set (g.toNat - 1) { x with sag := false } } } t))
  ∧ ((∀ (s : Machine.State) (pin : Pin) (x y : Bool) (p : PinSt), pinInput s.voice.data pin.toNat = true → 9 ≤ pin.toNat →
      s.fio.pins[pin.toNat - 1]? = some p →
      ∃ t q, Machine.exec (.filterTick pin x y) s = .next t ∧ t.fio.pins[pin.toNat - 1]? = some q
        ∧ q.accX = (filterTick (s.filtN pin.toNat) x p.accX p.outX).1 ∧ q.outX = (filterTick (s.filtN pin.toNat) x p.accX p.outX).2
        ∧ q.accY = (filterTick (s.filtN pin.toNat) y p.accY p.outY).1 ∧ q.outY = (filterTick (s.filtN pin.toNat) y p.accY p.outY).2
        ∧ q.fault = p.fault ∧ q.count = p.count ∧ t.sys = s.sys ∧ t.take = s.take)
    ∧ (∀ (s : Machine.State) (pin : Pin) (level : Bool) (p : PinSt), pinInput s.voice.data pin.toNat = true → 9 ≤ pin.toNat →
      s.fio.pins[pin.toNat - 1]? = some p → p.outY ≠ level →
      ∃ t q, Machine.exec (.filteredInputChange pin true level) s = .next t ∧ t.fio.pins[pin.toNat - 1]? = some q
        ∧ q.outY = level ∧ q.outX = p.outX ∧ q.count = p.count))

/-- - Counters and periods of the pins 1 to 8: a rising edge of channel X counts, and loads a pending preset instead; PERIOD_MEASURE takes the time
between two rising edges, saturating, and PERIOD_TIMEOUT reads 0 (R436, R439, R440).
- The writes to CNT_SNAP and CNT_PRESET_n by the coordinator (R438, R439): every counter and period is captured; a preset waits for the next
counted edge. -/
def Obligations.FieldCounters : Prop :=
  ((∀ (s : Machine.State) (pin : Pin) (p : PinSt), pinInput s.voice.data pin.toNat = true → 1 ≤ pin.toNat → pin.toNat ≤ 8 →
      bit (s.pinEntry pin.toNat) 19 = true → s.fio.pins[pin.toNat - 1]? = some p → p.outX = false →
      ∃ t q, Machine.exec (.filteredInputChange pin false true) s = .next t ∧ t.fio.pins[pin.toNat - 1]? = some q
        ∧ q.count = (if p.pend then p.preset else p.count + 1) ∧ q.pend = false)
    ∧ (∀ (s : Machine.State) (pin : Pin) (p : PinSt) (time old : Nat), 1 ≤ pin.toNat → pin.toNat ≤ 8 → bit (s.pinEntry pin.toNat) 20 = true →
      s.fio.pins[pin.toNat - 1]? = some p → p.lastEdge = some old →
      ∃ t, Machine.exec (.periodMeasure pin time) s = .next t
        ∧ t = { s with fio := { s.fio with
            pins := s.fio.pins.set (pin.toNat - 1) { p with lastEdge := some time, period := satNat 32 (time - old) } } })
    ∧ (∀ (s : Machine.State) (pin : Pin) (p : PinSt), 1 ≤ pin.toNat → s.fio.pins[pin.toNat - 1]? = some p →
      ∃ t, Machine.exec (.periodTimeout pin) s = .next t
        ∧ t = { s with fio := { s.fio with pins := s.fio.pins.set (pin.toNat - 1) { p with period := 0, lastEdge := none } } }))
  ∧ ((∀ s : Machine.State, s.coordUp = true →
      ∃ t, Machine.exec .cntSnap s = .next t ∧ t.bus = .ok ∧ Machine.State.noticed { s with
        bus := .ok, fio := { s.fio with pins := s.fio.pins.map fun x => { x with cntCap := x.count, perCap := x.period } } } t)
    ∧ (∀ (s : Machine.State) (n : BitVec 4) (v : Word) (p : PinSt), s.coordUp = true → 1 ≤ n.toNat → n.toNat ≤ 8 →
      s.fio.pins[n.toNat - 1]? = some p →
      ∃ t, Machine.exec (.cntPreset n v) s = .next t ∧ Machine.State.noticed { s with
        bus := .ok, fio := { s.fio with pins := s.fio.pins.set (n.toNat - 1) { p with preset := v, pend := true } } } t))

/-- - The refresh across the barrier: a good token of an ACTIVE lane that follows its last one keeps the lane alive; the silence of a lane opens
its elements, and with fewer than two lanes left every element opens and stays open until REFRESH_RESUME and the next take start (R457,
R458).
- A field channel is energized only where two ACTIVE lanes that refresh command it on, and never while the refresh is silent (R229, R230,
R458). -/
def Obligations.RefreshGatesOutputs : Prop :=
  ((∀ (s : Machine.State) (l : LaneId) (n : BitVec 16), s.sys.mode.runs = true → (s.lane l).active = true →
      (s.fio.tokens.get l).count = none →
      ∃ t, Machine.exec (.refreshToken l n true) s = .next t
        ∧ Machine.State.noticed { s with fio := { s.fio with tokens := s.fio.tokens.set l { count := some n, alive := true } } } t)
    ∧ (∀ (s : Machine.State) (l : LaneId), (∀ k : LaneId, k ≠ l → (s.fio.tokens.get k).alive = false) →
      ∃ t, Machine.exec (.refreshSilence l) s = .next t ∧ (t.fio.tokens.get l).alive = false ∧ t.fio.silent = true ∧ energized t = 0
        ∧ t.sys = s.sys ∧ t.take = s.take)
    ∧ (∀ s : Machine.State, s.fio.silent = true → 2 ≤ s.fio.refreshed →
      ∃ t, Machine.exec .refreshResume s = .next t ∧ t = { s with fio := { s.fio with resume := true } }))
  ∧ (∀ (s : Machine.State) (i : Nat), bit (energized s) i = true →
      s.fio.silent = false ∧ ∃ k l : LaneId, k ≠ l
        ∧ (s.lane k).active = true ∧ (s.fio.tokens.get k).alive = true ∧ bit (s.fio.cmd.get k) i = true
        ∧ (s.lane l).active = true ∧ (s.fio.tokens.get l).alive = true ∧ bit (s.fio.cmd.get l) i = true)

/-! ### The Reel -/

/-- - A limited record that finds no token of its code is suppressed, not written: the bucket counts it, and buffer and MRAM stay as they are
(R502).
- Rates and the ends of a flush and a clear: RATE_TOKEN_REFILL gives the bucket of its code one token up to its burst (R502); a write to
RATE_CFG in range sets rate and burst of the selected code (R511); REEL_FLUSH_DONE lets a waiting clear begin (R500, R507); REEL_CLEAR_DONE ends
a clear. -/
def Obligations.ReelRates : Prop :=
  (∀ (s : Machine.State) (b : RecBody) (k : Bucket), s.reel.full = false → reelBucket s.reel b.code = some k → k.tokens = 0 →
      (s.reelEnter b).reel.buffer = s.reel.buffer ∧ (s.reelEnter b).reel.mram = s.reel.mram
        ∧ (s.reelEnter b).reel.suppr = satInc s.reel.suppr ∧ bit (s.reelEnter b).flags.reel 3 = true)
  ∧ ((∀ (s : Machine.State) (code : Byte), ∃ t, Machine.exec (.rateTokenRefill code) s = .next t
      ∧ t = { s with reel := { s.reel with buckets := s.reel.buckets.map fun b =>
          if b.code = code then { b with tokens := if b.tokens.toNat < b.burst.toNat then b.tokens + 1 else b.tokens } else b } })
    ∧ (∀ (s : Machine.State) (v : Word), s.coordUp = true → 1 ≤ (field v 0 8).toNat → (field v 0 8).toNat ≤ 64 → 1 ≤ (field v 8 8).toNat →
      ∃ t, Machine.exec (.rateCfgWrite v) s = .next t ∧ t.bus = .ok
        ∧ (∀ b ∈ t.reel.buckets, b.code = s.reel.rateSel → b.rate = field v 0 8 ∧ b.burst = field v 8 8)
        ∧ (∀ b : Bucket, b.code ≠ s.reel.rateSel → (b ∈ t.reel.buckets ↔ b ∈ s.reel.buckets)))
    ∧ (∀ s : Machine.State, s.reel.clearReq = none →
      ∃ t, Machine.exec .reelFlushDone s = .next t ∧ t = { s with reel := { s.reel with flushing := false } })
    ∧ (∀ s : Machine.State, s.reel.clearing = true → s.reel.clearReq = none →
      ∃ t, Machine.exec .reelClearDone s = .next t ∧ t.reel.clearing = false ∧ t.reel.clearOut = 1 ∧ bit t.flags.reel 4 = true))

/-- REEL_READ answers at most 2,048 positions, each with its record where one is written there, and changes nothing else (R505). DAILIES
starts the accumulators anew at a take start on a new UTC day, or without UTC 8,437,500 rounds after the last, and at no other time (R508).
REEL_CLEAR that waits for a flush is kept with its client (R507). -/
def Obligations.ReelCommands : Prop :=
  (∀ (s : Machine.State) (first : BitVec 23) (n : BitVec 12), ∃ t rs, Machine.exec (.reelRead first n) s = .next t
    ∧ t = { s with out := s.out ++ [.records rs] } ∧ rs.length ≤ 2048 ∧ ∀ e ∈ rs, e.2 = recordWritten s.reel e.1 ∧ e.1 < 4194304)
  ∧ (∀ (s : Machine.State) (day : Word),
    (if s.port.ptp.locked = true then s.take.point = .started ∧ day ≠ s.reel.daily.day else s.reel.daily.since.toNat + 8437500 ≤ s.now.round.toNat) →
    ∃ t, Machine.exec (.dailies day) s = .next t
      ∧ t.reel.daily = { DailySt.reset with corrBase := s.scrubSums, since := s.now.round
                                            day := if s.port.ptp.locked = true then day else s.reel.daily.day }
      ∧ t.sys = s.sys ∧ t.take = s.take ∧ t.pair = s.pair)
  ∧ (∀ (s : Machine.State) (day : Word),
    ((s.port.ptp.locked = true ∧ (s.take.point ≠ .started ∨ day = s.reel.daily.day))
      ∨ (s.port.ptp.locked = false ∧ s.now.round.toNat < s.reel.daily.since.toNat + 8437500)) →
    Machine.exec (.dailies day) s = .next s)
  ∧ (∀ (s : Machine.State) (n : Word) (d : BitVec 48), s.reel.flushing = true →
    ∃ t, Machine.exec (.reelClear n d) s = .next t
      ∧ t = { s with reel := { s.reel with clearReq := some { readTo := n, digest := d } } })

/-! ### Staging and activation -/

/-- - STAGE_OPEN of a manifest that passes its checks takes EMPTY staging for its sender, and one of the manifest under way makes its sender the
owner (R515, R517); STAGE_BLOCK of the owner with the CRC of the manifest stores the block
(R517); STAGE_CLOSE with every block and every section digest in order makes the image STAGED; STAGE_DISCARD of the owner and STAGING_LAPSE empty
staging (R515, R518).
- A staging message that its sender or the state does not admit stores nothing: a block of another sender, and a second manifest while one is
received (R515, R518). -/
def Obligations.StagingFollowsItsOwner : Prop :=
  ((∀ (s : Machine.State) (src : Source) (m : Bytes), s.coordUp = true → s.stg.state = .receiving → s.stg.manifest = m →
      ∃ t, Machine.exec (.stageOpen src m) s = .next t ∧ t = { s with stg := { s.stg with owner := some src } })
    ∧ (∀ (s : Machine.State) (src : Source) (m : Bytes), s.coordUp = true → s.stg.state = .empty → s.voice.manifestFail m = none →
      ∃ t, Machine.exec (.stageOpen src m) s = .next t
        ∧ t = { s with stg := { s.stg with state := .receiving, owner := some src, manifest := m, blocks := [] } })
    ∧ (∀ (s : Machine.State) (src : Source) (n : BitVec 9) (b : Bytes), s.coordUp = true → s.stg.state = .receiving → s.stg.owner = some src →
      n.toNat < manBlocks s.stg.manifest → b.length = 65536 → crc32 b = manCrc s.stg.manifest n.toNat →
      ∃ t, Machine.exec (.stageBlock src n b) s = .next t
        ∧ t = { s with stg := { s.stg with blocks := (s.stg.blocks.filter fun x => decide (x.1 ≠ n.toNat)) ++ [(n.toNat, b)] } })
    ∧ (∀ (s : Machine.State) (src : Source), s.coordUp = true → s.stg.state = .receiving → s.stg.owner = some src → s.stg.complete = true →
      s.stg.badSection = none → s.stg.copyOpen = false →
      ∃ t, Machine.exec (.stageClose src) s = .next t ∧ Machine.State.noticed { s with stg := { s.stg with state := .staged, use := .none } } t)
    ∧ (∀ (s : Machine.State) (src : Source) (a : Bool), s.coordUp = true → (s.stg.state = .receiving ∨ s.stg.state = .staged) →
      s.stg.owner = some src →
      ∃ t, Machine.exec (.stageDiscard src a) s = .next t ∧ t = { s with stg := s.stg.empty })
    ∧ (∀ s : Machine.State, s.stg.state = .receiving → s.stg.owner.isSome = true →
      ∃ t, Machine.exec .stagingLapse s = .next t ∧ Machine.State.noticed { s with stg := s.stg.empty } t))
  ∧ ((∀ (s : Machine.State) (src : Source) (n : BitVec 9) (b : Bytes), s.stg.owner ≠ some src →
      ∃ t, Machine.exec (.stageBlock src n b) s = .next t ∧ t.stg = s.stg)
    ∧ (∀ (s : Machine.State) (src : Source) (m : Bytes), s.stg.state ≠ .empty → s.stg.manifest ≠ m →
      ∃ t, Machine.exec (.stageOpen src m) s = .next t ∧ t.stg = s.stg))

/-- - COPY_BLOCK of a block that is not the last moves the copy on; one that cannot be read from staging returns the image to RECEIVING without
an owner and without that block (R521, R522).
- The two-phase commit in a participant: PREPARE that meets R525 for a witness image is answered READY with staging in use; ACT_COMMIT and
ACT_ABORT with its digest commit or abort it, and an abort gives staging back; without a decision it aborts (R524 to R526). -/
def Obligations.CopiesAndParticipants : Prop :=
  ((∀ s : Machine.State, s.coordUp = true → s.stg.copyOpen = true → s.stg.use = .copy → s.stg.copyNext + 1 < s.stg.copyCnt →
      ∃ t, Machine.exec (.copyBlock true) s = .next t ∧ t = { s with stg := { s.stg with copyNext := s.stg.copyNext + 1 } })
    ∧ (∀ s : Machine.State, s.coordUp = true → s.stg.copyOpen = true → s.stg.use = .copy →
      ∃ t, Machine.exec (.copyBlock false) s = .next t ∧ Machine.State.noticed { s with stg := { s.stg with
        state := .receiving, owner := none, use := .none, blocks := s.stg.blocks.filter fun b => decide (b.1 ≠ s.stg.copyNext) } } t))
  ∧ ((∀ (s : Machine.State) (d : Quad) (r : BitVec 40) (ps : List NodeId), s.coordUp = true → s.net.node ∈ ps → s.stg.phase = .none →
      s.stg.state = .staged → digest16 s.stg.manifest = d → s.sys.mode.runs = true →
      ∃ t, Machine.exec (.prepare d r 3 ps) s = .next t ∧ t.stg = { s.stg with
        phase := .ready, cause := 0, digest := d, round := r, kind := 3, parts := ps, prepared := true, local_ := false
        state := .inUse, use := .activation } ∧ t.take = s.take ∧ t.sys = s.sys)
    ∧ (∀ (s : Machine.State) (d : Quad), s.coordUp = true → s.stg.phase = .ready → s.stg.digest = d →
      ∃ t, Machine.exec (.actCommit d) s = .next t ∧ t = { s with stg := { s.stg with phase := .commit } })
    ∧ (∀ (s : Machine.State) (d : Quad) (cause : Byte), s.coordUp = true → s.stg.phase = .ready → s.stg.digest = d → s.stg.use = .activation →
      ∃ t, Machine.exec (.actAbort d cause) s = .next t ∧ t.stg.phase = .aborted ∧ t.stg.cause = cause ∧ t.stg.state = .staged
        ∧ t.stg.use = .none ∧ t.stg.service = .none ∧ bit t.flags.stg 4 = true)
    ∧ (∀ s : Machine.State, s.coordUp = true → s.stg.phase = .ready → s.stg.use = .activation →
      ∃ t, Machine.exec .noDecisionAbort s = .next t ∧ t.stg.phase = .aborted ∧ t.stg.cause = 6 ∧ t.stg.state = .staged))

/-- - The witness decides an activation: ACT_REQ opens it, the READY of the last participant before the deadline commits it, one refusal or the
deadline aborts it, and ACT_CANCEL aborts it with cause 7 (R524, R526).
- Scheduling: ACT_SCHEDULE at the lead for a staged witness image, 4,096 to 8,437,500 rounds ahead, prepares the activation with the lead among
its participants (R523, R524); ACT_LOCAL in a module that runs no takes commits its staged image for its next start (R527). -/
def Obligations.ActivationsAreDecided : Prop :=
  ((∀ (s : Machine.State) (d : Quad) (r : BitVec 40) (k : BitVec 2) (ps : List NodeId), s.sys.mode = .witness → s.coordUp = true → s.stg.parts = [] →
      s.stg.digest ≠ d → s.net.node ∉ ps →
      ∃ t, Machine.exec (.actReq d r k ps) s = .next t
        ∧ t = { s with stg := { s.stg with digest := d, round := r, kind := k, parts := ps, readys := [], decided := none } })
    ∧ (∀ (s : Machine.State) (n : NodeId) (d : Quad), s.witnessOpen = true → s.stg.digest = d → s.stg.parts = [n] → s.stg.phase = .none →
      s.now.round.toNat + 128 < s.stg.round.toNat → s.stg.readys = [] →
      ∃ t, Machine.exec (.actReady n d) s = .next t ∧ t = { s with stg := { s.stg with readys := [n], decided := some true } })
    ∧ (∀ (s : Machine.State) (n : NodeId) (d : Quad) (cause : Byte), s.witnessOpen = true → s.stg.digest = d → n ∈ s.stg.parts → s.stg.phase = .none →
      ∃ t, Machine.exec (.actRefuse n d cause) s = .next t ∧ t = { s with stg := { s.stg with decided := some false, cause := cause } })
    ∧ (∀ s : Machine.State, s.witnessOpen = true → s.stg.phase = .none →
      ∃ t, Machine.exec .actDeadline s = .next t ∧ t.stg = { s.stg with decided := some false, cause := 1 })
    ∧ (∀ s : Machine.State, s.witnessOpen = true → s.stg.phase = .none →
      ∃ t, Machine.exec .actCancel s = .next t ∧ t.stg = { s.stg with decided := some false, cause := 7 }))
  ∧ ((∀ (s : Machine.State) (r : BitVec 40), s.coordUp = true → s.sys.role = .lead → s.stg.state = .staged → manKind s.stg.manifest = 4 →
      4096 ≤ r.toNat - s.now.round.toNat → r.toNat - s.now.round.toNat ≤ 8437500 → s.stg.busy = false →
      ∃ t, Machine.exec (.actSchedule r (digest16 s.stg.manifest)) s = .next t ∧ t.stg.phase = .preparing ∧ t.stg.kind = 3 ∧ t.stg.round = r
        ∧ s.net.node ∈ t.stg.parts ∧ t.stg.prepared = false ∧ t.sys = s.sys ∧ t.take = s.take)
    ∧ (∀ s : Machine.State, s.coordUp = true → s.sys.mode.runs = false → s.stg.state = .staged → manKind s.stg.manifest = 2 → s.stg.busy = false →
      ∃ t, Machine.exec .actLocal s = .next t ∧ t.stg.phase = .commit ∧ t.stg.kind = 2 ∧ t.stg.local_ = true ∧ t.stg.state = .inUse
        ∧ t.stg.use = .activation ∧ t.sys = s.sys))

/-- - An activation takes effect: ACT_ROUND_REACHED starts the firmware roll at the lead, which stays in service, and restarts its second (R528,
R529); SERVICE_COMMIT with its load passed and no live route makes the loaded planes active (R528).
- The roll: a lead whose second has run 100 takes resigns (ROLL_RESIGN); the witness restarts after it (ROLL_WITNESS_RESTART); a participant that
is not back halts the roll with cause 9 (R529). -/
def Obligations.ActivationsTakeEffect : Prop :=
  ((∀ s : Machine.State, s.coordUp = true → s.stg.phase = .commit → s.stg.local_ = false → s.stg.kind = 0 → s.sys.mode.runs = true →
      ∃ t, Machine.exec .actRoundReached s = .next t ∧ t.stg.phase = .rolling ∧ t.sys.mode = s.sys.mode
        ∧ (s.sys.role = .lead → t.wrap = s.wrap ∧ t.take = s.take)
        ∧ (s.sys.role = .second → t.wrap.running = true ∧ t.wrap.why = .activation ∧ t.pair.withhold = true))
    ∧ (∀ (s : Machine.State) (i : Image) (l : LaneId), s.take.point = .deadline → s.sys.mode.runs = true → s.serviceDue = true →
      s.stagedImage = some i → s.stg.service = .passed → liveRoutes s.voice.vit = [] → (s.lane l).evaluates = true →
      ∃ t, Machine.exec .serviceCommit s = .next t ∧ t.stg.phase = .done ∧ t.stg.copyOpen = true ∧ t.stg.copyStation = true
        ∧ bit t.flags.stg 5 = true
        ∧ (t.lane l).vit.reg.active = (s.lane l).vit.reg.active ^^^ 0xFFFF ∧ (t.lane l).vit.reg.rtActive = !(s.lane l).vit.reg.rtActive))
  ∧ ((∀ s : Machine.State, s.coordUp = true → s.stg.phase = .rolling → s.sys.role = .lead → s.sys.mode.runs = true → 100 ≤ s.stg.vitalTakes →
      s.pair.resigned = false →
      ∃ t, Machine.exec .rollResign s = .next t ∧ t.pair = { s.pair with resigned := true, sending := false }
        ∧ t.out = s.out ++ [.resign s.net.node] ∧ t.stg = s.stg ∧ t.take = s.take)
    ∧ (∀ s : Machine.State, s.sys.mode = .witness → s.coordUp = true → s.stg.phase = .rolling → s.wrap.running = false →
      ∃ t, Machine.exec .rollWitnessRestart s = .next t ∧ t.wrap.running = true ∧ t.wrap.why = .activation ∧ t.sys.mode = .witness)
    ∧ (∀ s : Machine.State, s.coordUp = true → s.stg.phase = .rolling →
      ∃ t, Machine.exec .rollHalted s = .next t ∧ t.stg.phase = .aborted ∧ t.stg.cause = 9 ∧ bit t.flags.stg 7 = true ∧ t.sys = s.sys))

/-! ### The coordinator -/

/-- - MAILBOX_GO by the coordinator with LEN 8 to 16 in a free mailbox, outside BOOT and CUT: every lane whose domain is on holds the message, and
FULL is set in those that evaluate; the copies are not compared yet (R540, R542).
- MAILBOX_GO of another master than the coordinator is a bus error and sends nothing; GO while a FULL bit is 1 is ignored with TX_OVERRUN
(R538, R542).
- MAILBOX_COMPARE in a started take, with lanes A to C ACTIVE: a mailbox that all three hold alike compares equal in each copy; one that they
hold unlike is marked so, counted and flagged (R544). -/
def Obligations.BroadcastMailboxes : Prop :=
  (∀ (s : Machine.State) (k : BitVec 2) (len : BitVec 5) (l : LaneId), s.coordUp = true → s.sys.mode ≠ .cut → s.sys.mode ≠ .boot →
      s.boxFull k.toNat = false → 8 ≤ len.toNat → len.toNat ≤ 16 → (s.lane l).stat.domainOn = true → (s.lane l).mbx.length = 4 →
      ∃ t, Machine.exec (.mailboxGo 0 k len) s = .next t ∧ t.bus = .ok ∧ t.take = s.take
        ∧ (t.lane l).copyOf k.toNat = { words := (s.bcBox k.toNat).words, len := len, full := (s.lane l).evaluates, cmp := none })
  ∧ ((∀ (s : Machine.State) (m : BitVec 3) (k : BitVec 2) (len : BitVec 5), s.supplied = true → m ≠ 0 → m ≠ 7 →
      ∃ t, Machine.exec (.mailboxGo m k len) s = .next t ∧ Machine.State.noticed { s with bus := .error } t)
    ∧ (∀ (s : Machine.State) (k : BitVec 2) (len : BitVec 5), s.coordUp = true → s.boxFull k.toNat = true →
      ∃ t, Machine.exec (.mailboxGo 0 k len) s = .next t ∧ Machine.State.noticed { s with bus := .ok } t ∧ bit t.flags.mbx 15 = true))
  ∧ ((∀ (s : Machine.State) (k : Nat), s.take.point = .started → (∀ l : LaneId, (s.lane l).active = true ∧ (s.lane l).mbx = s.laneA.mbx) →
      k < 4 → (s.laneA.copyOf k).full = true →
      ∃ t, Machine.exec .mailboxCompare s = .next t ∧ t.mbx.disagree = s.mbx.disagree
        ∧ ∀ l : LaneId, ((t.lane l).copyOf k).cmp = some true)
    ∧ (∀ s : Machine.State, s.take.point = .started → (∀ l : LaneId, (s.lane l).active = true) →
      (s.laneA.copyOf 0).full = true → copyKey (s.laneA.copyOf 0) ≠ copyKey (s.laneB.copyOf 0) →
      (∀ k, 1 ≤ k → k < 4 → s.boxFull k = false) →
      ∃ t, Machine.exec .mailboxCompare s = .next t ∧ t.mbx.disagree = satInc s.mbx.disagree ∧ bit t.flags.mbx 14 = true
        ∧ (t.laneA.copyOf 0).cmp = some false))

/-- Lane mailboxes: a message of 8 to 16 words enters a free mailbox and raises its RX_GO; one that finds it FULL waits; the coordinator's read
clears FULL (R550, R551). -/
def Obligations.LaneMailboxes : Prop :=
  (∀ (s : Machine.State) (l : LaneId) (m : BitVec 2) (w : List Word), s.supplied = true → (s.lane l).stat.domainOn = true →
    8 ≤ w.length → w.length ≤ 16 → (s.lane l).boxes.length = 4 →
    (((s.lane l).boxOf m.toNat).full = false →
      ∃ t, Machine.exec (.laneMessage l m w) s = .next t
        ∧ (t.lane l).boxOf m.toNat = { words := w, len := BitVec.ofNat 5 w.length, full := true } ∧ bit t.flags.mbx (4 * l.num + m.toNat) = true)
    ∧ (((s.lane l).boxOf m.toNat).full = true →
      ∃ t, Machine.exec (.laneMessage l m w) s = .next t ∧ t = s.setLane l { (s.lane l) with unsent := (s.lane l).unsent ++ [(m, w)] }))
  ∧ (∀ (s : Machine.State) (l : LaneId) (m : BitVec 2), s.coordUp = true → ((s.lane l).boxOf m.toNat).full = true → (s.lane l).unsent = [] →
    (s.lane l).boxes.length = 4 →
    ∃ t, Machine.exec (.laneMailboxRead l m) s = .next t ∧ s.laneOnly t l ∧ ((t.lane l).boxOf m.toNat).full = false
      ∧ ((t.lane l).boxOf m.toNat).words = ((s.lane l).boxOf m.toNat).words)

/-- - A coordinator restart, by watchdog or rail, counts, closes every control-port session and releases the coordinator's locks, while lanes, take,
network and field side keep their state; it ends with COORD_RESTART_DONE (R539, R557, R614).
- The coordinator's write to SEM_FORCE releases the locks it names; the drop of the service link releases the locks of master 6 (R557,
R651).
- WAKE_POWER_OFF: a lane woken 64 takes ago that no command has started loses its domain, and its counters (R547, R590).
- EVT_SWSET sets the software flags named in the value, and no other bit of SW changes (R562). -/
def Obligations.CoordinatorRestarts : Prop :=
  ((∀ s : Machine.State, s.coordUp = true → ∀ c ∈ [Instr.coordWatchdog, .coordinatorRailOut],
      ∃ t, Machine.exec c s = .next t ∧ t.mbx.restarting = true ∧ t.mbx.coordRst = satInc s.mbx.coordRst ∧ t.port.sessions = []
        ∧ t.port.proposals = [] ∧ (∀ h ∈ t.locks, h ≠ some 0 ∧ h ≠ some 4 ∧ h ≠ some 5)
        ∧ t.laneA = s.laneA ∧ t.laneB = s.laneB ∧ t.laneC = s.laneC ∧ t.take = s.take ∧ t.net = s.net ∧ t.fio = s.fio ∧ t.sys = s.sys)
    ∧ (∀ s : Machine.State, ∃ t, Machine.exec .coordRestartDone s = .next t ∧ t = { s with mbx := { s.mbx with restarting := false } }))
  ∧ ((∀ (s : Machine.State) (v : Word), s.coordUp = true →
      ∃ t, Machine.exec (.semForce 0 v) s = .next t ∧ t.bus = .ok ∧ t.take = s.take
        ∧ ∀ (i : Nat) (h : Option (BitVec 3)), s.locks[i]? = some h → t.locks[i]? = some (if bit v i then none else h))
    ∧ (∀ s : Machine.State, ∃ t, Machine.exec .serviceLinkDrop s = .next t
        ∧ Machine.State.noticed { s with locks := s.locks.map fun h => if h = some 6 then none else h } t))
  ∧ (∀ (s : Machine.State) (l : LaneId) (n : Word), (s.lane l).stat.wokenAt = some n → (s.lane l).stat.state = .shutdown →
      64 ≤ (s.take.num - n).toNat →
      ∃ t, Machine.exec (.wakePowerOff l) s = .next t ∧ (t.lane l).stat.domainOn = false ∧ (t.lane l).stat.state = .shutdown
        ∧ t.sys = s.sys ∧ t.take = s.take
        ∧ ∀ (i : Nat) (c : Counter), s.pmc.counters[i]? = some c →
            t.pmc.counters[i]? = some (if laneCounter l i then { cfg := 0, val := 0 } else c))
  ∧ (∀ (s : Machine.State) (v : Word), s.coordUp = true → ∃ t, Machine.exec (.evtSwset v) s = .next t ∧ t.bus = .ok
      ∧ (∀ i < 16, bit t.flags.sw i = (bit s.flags.sw i || bit v i)) ∧ t.take = s.take ∧ t.sys = s.sys ∧ t.reel = s.reel)

/-- The locks (R555): a read of a free lock acquires it for its master and returns 0; a read by its holder returns 0; any other read returns
the holder's identifier plus 1. A write by the holder of its own identifier releases the lock; any other write changes no lock and sets
BAD_RELEASE. -/
def Obligations.LocksAnswerTheirMaster : Prop :=
  ∀ (s : Machine.State) (m : BitVec 3) (i : BitVec 5), s.coordUp = true → m ≠ 7 →
    (s.locks.getD i.toNat none = none → ∃ t, Machine.exec (.semLockRead m i) s = .next t
      ∧ Machine.State.noticed { s with locks := s.locks.set i.toNat (some m), bus := .data 0 } t)
    ∧ (s.locks.getD i.toNat none = some m → ∃ t, Machine.exec (.semLockRead m i) s = .next t
      ∧ Machine.State.noticed { s with bus := .data 0 } t)
    ∧ (∀ h : BitVec 3, s.locks.getD i.toNat none = some h → h ≠ m → ∃ t, Machine.exec (.semLockRead m i) s = .next t
      ∧ Machine.State.noticed { s with bus := .data (h.zeroExtend 32 + 1) } t)
    ∧ ∀ v : Word,
      (s.locks.getD i.toNat none = some m → v = m.zeroExtend 32 → ∃ t, Machine.exec (.semLockWrite m i v) s = .next t
        ∧ Machine.State.noticed { s with locks := s.locks.set i.toNat none, bus := .ok } t)
      ∧ ((s.locks.getD i.toNat none ≠ some m ∨ v ≠ m.zeroExtend 32) → ∃ t, Machine.exec (.semLockWrite m i v) s = .next t
        ∧ Machine.State.noticed { s with bus := .ok } t ∧ bit t.flags.sem 1 = true)

/-! ### The wrap test, counters and registers -/

/-- - WRAP_SLICE_END before the last slice of a lane wrap: the slice's result enters that lane's results, it counts as failing where it does not
pass, and the next slice follows; no other lane changes (R567 to R573).
- The last slice of a lane wrap without a failing slice: verdict PASS, and the lane, where it is not held, is EXCLUDED and may recover (R411,
R573). -/
def Obligations.WrapTest : Prop :=
  (∀ (s : Machine.State) (a b c : SliceRun), s.wrap.running = true → s.wrap.why = .lane → s.wrap.slice < 62 →
      ∃ t, Machine.exec (.wrapSliceEnd a b c) s = .next t ∧ t.wrap = { s.wrap with slice := s.wrap.slice + 1 }
        ∧ (t.lane s.wrap.lane).wrap.runs = (s.lane s.wrap.lane).wrap.runs ++ [(s.wrap.slice, a)]
        ∧ (t.lane s.wrap.lane).wrap.failing = (s.lane s.wrap.lane).wrap.failing ++ (if slicePasses s.wrap.slice a then [] else [s.wrap.slice])
        ∧ (∀ k : LaneId, k ≠ s.wrap.lane → t.lane k = s.lane k) ∧ t.take = s.take ∧ t.sys = s.sys)
  ∧ (∀ (s : Machine.State) (a b c : SliceRun), s.wrap.running = true → s.wrap.why = .lane → s.wrap.slice = 63 →
      slicePasses 63 a = true → (s.lane s.wrap.lane).wrap.failing = [] → (s.lane s.wrap.lane).stat.held = false →
      (s.lane s.wrap.lane).stat.state = .shutdown →
      ∃ t, Machine.exec (.wrapSliceEnd a b c) s = .next t ∧ t.wrap.running = false ∧ (t.lane s.wrap.lane).wrap.verdict = 1
        ∧ (t.lane s.wrap.lane).stat.state = .excluded ∧ bit t.flags.wrap 1 = true ∧ t.take = s.take)

/-- - The coordinator's freeze and release of the performance counters: FREEZE stops them with cause 1 at the present network time, PMC_FROZEN sets
FROZEN once, and the release lets them count (R595 to R597, R604).
- The selected counter, while the counters stand still: PMC_CFG takes a valid configuration, PMC_VAL_LO returns bits 31:0 and captures bits
47:32, PMC_FRZ_LO the freeze time likewise (R592, R599, R602). -/
def Obligations.CountersFreezeAndAreRead : Prop :=
  ((∀ (s : Machine.State) (v : Word), s.coordUp = true → bit v 3 = false → s.pmc.stopped = true →
      ∃ t, Machine.exec (.pmcRelease v) s = .next t ∧ t.bus = .ok ∧ t.pmc.freeze = false ∧ t.pmc.frozen = false ∧ t.pmc.stopped = false
        ∧ t.pmc.onCut = bit v 1 ∧ t.pmc.onWrap = bit v 2 ∧ t.pmc.counters = s.pmc.counters)
    ∧ (∀ (s : Machine.State) (v : Word), s.coordUp = true → bit v 3 = false → s.pmc.stopped = false → s.pmc.onWrap = false →
      ∃ t, Machine.exec (.pmcFreeze v) s = .next t ∧ t.bus = .ok ∧ t.pmc.freeze = true ∧ t.pmc.stopped = true ∧ t.pmc.cause = 1
        ∧ t.pmc.frzTime = s.now.word)
    ∧ (∀ s : Machine.State, s.pmc.stopped = true → s.pmc.frozen = false →
      ∃ t, Machine.exec .pmcFrozen s = .next t ∧ t.pmc = { s.pmc with frozen := true } ∧ bit t.flags.pmc 1 = true ∧ t.reel = s.reel))
  ∧ ((∀ (s : Machine.State) (v : Word) (c : Counter), s.coordUp = true → s.pmc.stopped = true → s.selected = some (s.pmc.sel.toNat, c) →
      badConfig s.pmc.sel.toNat v = false →
      ∃ t, Machine.exec (.pmcCfgWrite v) s = .next t
        ∧ t = { s with bus := .ok, pmc := { s.pmc with counters := s.pmc.counters.set s.pmc.sel.toNat { c with cfg := v &&& 0x000F7FFF } } })
    ∧ (∀ (s : Machine.State) (c : Counter), s.coordUp = true → s.pmc.stopped = true → s.selected = some (s.pmc.sel.toNat, c) →
      ∃ t, Machine.exec .pmcValRead s = .next t
        ∧ t = { s with bus := .data (field c.val 0 32), pmc := { s.pmc with valHi := field c.val 32 16 } })
    ∧ (∀ s : Machine.State, s.coordUp = true → s.pmc.stopped = true →
      ∃ t, Machine.exec .pmcFrzRead s = .next t
        ∧ t = { s with bus := .data (field s.pmc.frzTime 0 32), pmc := { s.pmc with frzHi := field s.pmc.frzTime 32 32 } }))

/-- CLEAR and PRESET act only while FROZEN = 1 (R598): CLEAR sets every counter and PMC_WRAP to 0, and PRESET loads the selected counter with
PRESET_HI above the value; at any other time the write is ignored and BAD_WRITE sets. -/
def Obligations.ClearAndPresetNeedFrozen : Prop :=
  ∀ s : Machine.State, s.coordUp = true →
    (s.pmc.frozen = true → ∃ t, Machine.exec .pmcClear s = .next t ∧ t.bus = .ok ∧ (∀ c ∈ t.pmc.counters, c.val = 0) ∧ t.pmc.wraps = 0
      ∧ t.pmc.counters.map (·.cfg) = s.pmc.counters.map (·.cfg))
    ∧ (∀ (v : Word) (c : Counter), s.pmc.frozen = true → s.selected = some (s.pmc.sel.toNat, c) →
      ∃ t, Machine.exec (.pmcPreset v) s = .next t ∧ t.bus = .ok
        ∧ t.pmc.counters[s.pmc.sel.toNat]? = some { c with val := s.pmc.presetHi ++ v })
    ∧ (∀ v : Word, s.pmc.frozen = false → ∀ c ∈ [Instr.pmcClear, .pmcPreset v],
      ∃ t, Machine.exec c s = .next t ∧ t.bus = .ok ∧ bit t.flags.pmc 4 = true
        ∧ (∀ i < 240, t.pmc.counters[i]? = s.pmc.counters[i]?) ∧ (s.pmc.stopped = true → t.pmc = s.pmc))

/-- - TAKE_START_LO returns its mirror and captures the high word; a write to MARGIN_LOW_CLR sets MARGIN_LOW to 1000; a write to WRAP_WIN in range
takes it, one out of range changes nothing (R58, R420, R425).
- REGISTER_WRITE: an aligned word write of the coordinator to a sticky flag register clears the bits written as 1 and no other (R16); a write to a
read-only word changes nothing; a write that is not an aligned whole word is a bus error and changes nothing (R15, R17). -/
def Obligations.RegistersAnswerWrites : Prop :=
  ((∀ s : Machine.State, s.coordUp = true → ∃ t, Machine.exec .takeStartRead s = .next t
      ∧ Machine.State.noticed { s with bus := .data (s.mirrorWord 0x40010014), take := { s.take with startHi := s.mirrorWord 0x40010018 } } t)
    ∧ (∀ (s : Machine.State) (v : Word), s.coordUp = true → ∃ t, Machine.exec (.marginLowClr v) s = .next t
      ∧ Machine.State.noticed { s with bus := .ok, take := { s.take with marginLow := 1000 } } t)
    ∧ (∀ (s : Machine.State) (v : Word), s.coordUp = true → ∃ t, Machine.exec (.wrapWinWrite v) s = .next t
      ∧ ((field v 0 11).toNat ≤ 1439 → 1 ≤ (field v 16 11).toNat → (field v 16 11).toNat ≤ 1440 →
          Machine.State.noticed { s with bus := .ok, pair := { s.pair with wrapWin := v &&& 0x07FF07FF } } t)
      ∧ ((1439 < (field v 0 11).toNat ∨ (field v 16 11).toNat = 0 ∨ 1440 < (field v 16 11).toNat) →
          Machine.State.noticed { s with bus := .ok } t)))
  ∧ ((∀ (s : Machine.State) (v : Word), s.coordUp = true → ∃ t, Machine.exec (.registerWrite 0 0x40060030 4 v) s = .next t ∧ t.bus = .ok
      ∧ t.flags.pair = s.flags.pair &&& ~~~v ∧ t.pair = s.pair ∧ t.sys = s.sys ∧ t.take = s.take)
    ∧ (∀ (s : Machine.State) (v : Word), s.coordUp = true → ∃ t, Machine.exec (.registerWrite 0 0x40000020 4 v) s = .next t
      ∧ Machine.State.noticed { s with bus := .ok } t)
    ∧ (∀ (s : Machine.State) (m : BitVec 3) (a : Word) (size : BitVec 4) (v : Word), s.supplied = true → s.mbx.restarting = false → m ≠ 7 →
      (size ≠ 4 ∨ field a 0 2 ≠ 0#2) → ∃ t, Machine.exec (.registerWrite m a size v) s = .next t ∧ Machine.State.noticed { s with bus := .error } t))

/-! ### Control and service ports -/

/-- - Sessions: a client whose offer and certificate are in order opens a session with the role of its certificate while its port has fewer than 4;
SESSION_IDLE_CLOSE and TLS_SESSION_CLOSE close it (R635 to R637).
- A client with an offer outside R636, or after an intrusion, opens nothing (R627, R636).
- BATCH: at a lead in service an item other than none in a new message of a CONTROL or AUTHORITY client is accepted for the next order point (R640,
R643); a BATCH of MAINT is answered REFUSED_ROLE, with nothing accepted (R637, R647). -/
def Obligations.ClientSessionsAndBatches : Prop :=
  ((∀ (s : Machine.State) (p : Bool) (h : TlsHello) (c : Cert) (r : ClientRole), s.coordUp = true → s.pwr.intruded = false → s.pwr.devKey = true →
      helloOk h = true → h.cert = some c → s.certRole c = some r → (s.port.sessions.filter fun x => decide (x.cp2 = p)).length < 4 →
      ∃ t, Machine.exec (.tlsOpen p h) s = .next t ∧ t = { s with port := { s.port with
        sessions := s.port.sessions ++ [{ sid := s.port.nextSid, cp2 := p, role := r, digest := c.digest }], nextSid := s.port.nextSid + 1 } })
    ∧ (∀ (s : Machine.State) (x : TlsSession), x ∈ s.port.sessions → ∀ c ∈ [Instr.sessionIdleClose x.sid, .tlsSessionClose x.sid],
      ∃ t, Machine.exec c s = .next t ∧ t = { s with
        port := { s.port with sessions := s.port.sessions.filter fun y => decide (y.sid ≠ x.sid) }, out := s.out ++ [.closed x.sid] }))
  ∧ (∀ (s : Machine.State) (p : Bool) (h : TlsHello), (helloOk h = false ∨ s.pwr.intruded = true) → Machine.exec (.tlsOpen p h) s = .next s)
  ∧ ((∀ (s : Machine.State) (c : TlsSession) (id : Word) (i : BitVec 16), s.session c.sid = some c → c.role ≠ .maint → s.orders = true →
      field i 13 3 ≠ 0#3 → s.repeated c.digest id = false →
      ∃ t, Machine.exec (.batch c.sid id [i]) s = .next t ∧ t = { s with port := { s.port with
        items := s.port.items ++ [{ sid := some c.sid, client := c.digest, msgId := id, item := i, idx := 0 }] } })
    ∧ (∀ (s : Machine.State) (c : TlsSession) (id : Word) (is : List (BitVec 16)), s.session c.sid = some c → c.role = .maint →
      ∃ t, Machine.exec (.batch c.sid id is) s = .next t ∧ t = { s with out := s.out ++ [.result c.sid id 3 0] }))

/-- - Dual authorisation: PROPOSE by an AUTHORITY client at the home of the message is held as an open proposal with the digest of the message
(R641); CONFIRM by the proposer is REFUSED_ROLE and by another AUTHORITY client releases it: an ordered message waits for an order list with both
digests; a proposal without a CONFIRM lapses (R641, R644).
- TUNNEL_RELAY: the lead accepts the item of a BATCH of one item that its second relays, for the client of the second's session; another module
takes nothing (R643). -/
def Obligations.TwoClientsAuthorise : Prop :=
  ((∀ (s : Machine.State) (c : TlsSession) (id : Word) (m : CtlMsg), s.session c.sid = some c → c.role = .authority → proposable m = true →
      s.orders = true → s.port.proposals.length < 8 →
      ∃ t, Machine.exec (.propose c.sid id m) s = .next t
        ∧ t.port = { s.port with proposals := s.port.proposals ++
            [{ sid := some c.sid, client := c.digest, msgId := id, msg := m, digest := digest16 (msgBytes m) }] }
        ∧ .result c.sid id 2 0 ∈ t.out ∧ t.sys = s.sys ∧ t.take = s.take)
    ∧ (∀ (s : Machine.State) (c : TlsSession) (id : Word) (p : Proposal), s.session c.sid = some c → c.role = .authority → s.proposal p.digest = some p →
      isOrdered p.msg.type = true → s.orders = true → s.repeated p.client p.msg.msgId = false → s.port.auths = [] →
      (p.client = c.digest → ∃ t, Machine.exec (.confirm c.sid id p.digest) s = .next t ∧ t.port = s.port ∧ .result c.sid id 3 0 ∈ t.out)
      ∧ (p.client ≠ c.digest → ∃ t, Machine.exec (.confirm c.sid id p.digest) s = .next t ∧ t.port = { s.port with
          proposals := s.port.proposals.erase p
          auths := [{ msg := p.msg, proposer := p.client, confirmer := c.digest, sid := some c.sid, msgId := id }] }))
    ∧ (∀ (s : Machine.State) (p : Proposal), s.proposal p.digest = some p →
      ∃ t, Machine.exec (.proposalLapse p.digest) s = .next t ∧ t.port = { s.port with proposals := s.port.proposals.erase p } ∧ t.sys = s.sys))
  ∧ ((∀ (s : Machine.State) (client : BitVec 48) (id : Word) (i : BitVec 16), s.orders = true → field i 13 3 ≠ 0#3 → s.repeated client id = false →
      ∃ t, Machine.exec (.tunnelRelay client .control { type := 1, msgId := id, args := toBytes 2 i }) s = .next t
        ∧ t = { s with port := { s.port with items := s.port.items ++ [{ sid := none, client := client, msgId := id, item := i, idx := 0 }] } })
    ∧ (∀ (s : Machine.State) (client : BitVec 48) (r : ClientRole) (m : CtlMsg), s.orders = false →
      Machine.exec (.tunnelRelay client r m) s = .next s))

/-- - ORDER_POINT at the lead with nothing accepted: an empty list for the next take is made and is sent to the second with the own claim (R644, R645).
ORDER_LIST with the claim in force: the second holds a list for the next take (R645).
- SNAPSHOT_REQ answers with the vital mirror of every element, TIME_REQ with the time map, on a session or at the service port; nothing else
changes (R648, R650).
- IEEE 1588: the sixteenth synchronization in a row within 100 us of the last locks UTC, and the first that is off starts the count anew; UTC_UNLOCK
lets go of it and closes the wrap window, WRAP_WINDOW_CLOSE the window alone (R409, R650). -/
def Obligations.OrderListsAndTime : Prop :=
  ((∀ s : Machine.State, s.orders = true → s.take.point = .rushed → s.port.listTake ≠ some (s.take.num + 1) → s.port.auths = [] → s.port.items = [] →
      s.port.locals = [] →
      ∃ t, Machine.exec .orderPoint s = .next t ∧ t.port.listTake = some (s.take.num + 1) ∧ t.port.items = [] ∧ t.port.seq = s.port.seq
        ∧ t.net.tunnelOut = s.net.tunnelOut ++ [((3 : Byte), Config.tunnelBytes (.orders s.pair.claim []))]
        ∧ t.take = s.take ∧ t.sys = s.sys)
    ∧ (∀ s : Machine.State, s.coordUp = true → s.takesRun = true → s.sys.role = .second → s.pair.usable = true → s.port.locals = [] →
      ∃ t, Machine.exec (.orderList s.pair.claim []) s = .next t ∧ t = { s with port := { s.port with listTake := some (s.take.num + 1) } }))
  ∧ ((∀ (s : Machine.State) (n : Nat) (id : Word), s.asks n = true → ∃ t, Machine.exec (.snapshotReq n id) s = .next t
      ∧ t = { s with out := s.out ++ [.result n id 0 0, .snapshot n s.mirror.vec] })
    ∧ (∀ (s : Machine.State) (n : Nat) (id : Word), s.asks n = true → ∃ t, Machine.exec (.timeReq n id) s = .next t
      ∧ t = { s with out := s.out ++ [.result n id 0 0,
          .time n s.port.ptp.offset s.port.ptp.utcOffset s.port.ptp.locked s.port.ptp.lastSync] }))
  ∧ ((∀ (s : Machine.State) (rank utc : Nat) (o : Int), s.coordUp = true → s.port.ptp.rankB = none → s.port.ptp.agree = 15 → s.port.ptp.offset = o →
      ∃ t, Machine.exec (.ptpSync false 0 rank o 37 utc) s = .next t ∧ t.port.ptp.locked = true ∧ t.port.ptp.agree = 16 ∧ t.port.ptp.utc = utc
        ∧ t.port.ptp.offset = o ∧ t.port.ptp.lastSync = s.now ∧ t.take = s.take ∧ t.sys = s.sys)
    ∧ (∀ (s : Machine.State) (rank utc : Nat) (o : Int), s.coordUp = true → s.port.ptp.rankB = none → 1 ≤ s.port.ptp.agree →
      s.port.ptp.offset + 100000 < o →
      ∃ t, Machine.exec (.ptpSync false 0 rank o 37 utc) s = .next t ∧ t.port.ptp.agree = 1 ∧ t.port.ptp.locked = s.port.ptp.locked
        ∧ t.port.ptp.offset = o)
    ∧ (∀ s : Machine.State, ∃ t, Machine.exec .utcUnlock s = .next t ∧ t.port.ptp.locked = false ∧ t.port.ptp.agree = 0 ∧ t.pair.winOpen = false
        ∧ t.port.sessions = s.port.sessions ∧ t.take = s.take)
    ∧ (∀ s : Machine.State, ∃ t, Machine.exec .wrapWindowClose s = .next t
        ∧ t = { s with pair := { s.pair with winOpen := false, cycleDone := false } }))
end

