-- ==== Sys2Proof/Laws/State.lean ====
section
/-! SUPPORT. What the updates of State do, field by field: one lemma per field and update, so that no later proof unfolds a record
update. -/

namespace Sys2Proof.Machine

open Sys2Proof

/-! ### One lane -/

@[simp] theorem State.lane_setLane (s : State) (l : LaneId) (x : Lane) : (s.setLane l x).lane l = x := by cases l <;> rfl

theorem State.lane_setLane_of_ne (s : State) {k l : LaneId} (x : Lane) (h : k ≠ l) : (s.setLane l x).lane k = s.lane k := by
  cases k <;> cases l <;> first | rfl | exact absurd rfl h

@[simp] theorem State.setLane_lane (s : State) (l : LaneId) : s.setLane l (s.lane l) = s := by cases l <;> rfl

@[simp] theorem State.setLane_setLane (s : State) (l : LaneId) (x y : Lane) : (s.setLane l x).setLane l y = s.setLane l y := by
  cases l <;> rfl

@[simp] theorem State.lane_onLane (s : State) (l : LaneId) (f : Lane → Lane) : (s.onLane l f).lane l = f (s.lane l) := by cases l <;> rfl

theorem State.lane_onLane_of_ne (s : State) {k l : LaneId} (f : Lane → Lane) (h : k ≠ l) : (s.onLane l f).lane k = s.lane k :=
  s.lane_setLane_of_ne _ h

@[simp] theorem State.lane_onLanes (s : State) (f : LaneId → Lane → Lane) (l : LaneId) : (s.onLanes f).lane l = f l (s.lane l) := by
  cases l <;> rfl

@[simp] theorem State.laneA_eq (s : State) : s.lane .a = s.laneA := rfl
@[simp] theorem State.laneB_eq (s : State) : s.lane .b = s.laneB := rfl
@[simp] theorem State.laneC_eq (s : State) : s.lane .c = s.laneC := rfl

/-! ### The fields that `setLane` leaves -/

@[simp] theorem State.setLane_pending (s : State) (l : LaneId) (x : Lane) : (s.setLane l x).pending = s.pending := by cases l <;> rfl
@[simp] theorem State.setLane_now (s : State) (l : LaneId) (x : Lane) : (s.setLane l x).now = s.now := by cases l <;> rfl
@[simp] theorem State.setLane_take (s : State) (l : LaneId) (x : Lane) : (s.setLane l x).take = s.take := by cases l <;> rfl
@[simp] theorem State.setLane_sys (s : State) (l : LaneId) (x : Lane) : (s.setLane l x).sys = s.sys := by cases l <;> rfl
@[simp] theorem State.setLane_vote (s : State) (l : LaneId) (x : Lane) : (s.setLane l x).vote = s.vote := by cases l <;> rfl
@[simp] theorem State.setLane_net (s : State) (l : LaneId) (x : Lane) : (s.setLane l x).net = s.net := by cases l <;> rfl
@[simp] theorem State.setLane_ses (s : State) (l : LaneId) (x : Lane) : (s.setLane l x).ses = s.ses := by cases l <;> rfl
@[simp] theorem State.setLane_pair (s : State) (l : LaneId) (x : Lane) : (s.setLane l x).pair = s.pair := by cases l <;> rfl
@[simp] theorem State.setLane_wit (s : State) (l : LaneId) (x : Lane) : (s.setLane l x).wit = s.wit := by cases l <;> rfl
@[simp] theorem State.setLane_fio (s : State) (l : LaneId) (x : Lane) : (s.setLane l x).fio = s.fio := by cases l <;> rfl
@[simp] theorem State.setLane_reel (s : State) (l : LaneId) (x : Lane) : (s.setLane l x).reel = s.reel := by cases l <;> rfl
@[simp] theorem State.setLane_stg (s : State) (l : LaneId) (x : Lane) : (s.setLane l x).stg = s.stg := by cases l <;> rfl
@[simp] theorem State.setLane_evt (s : State) (l : LaneId) (x : Lane) : (s.setLane l x).evt = s.evt := by cases l <;> rfl
@[simp] theorem State.setLane_mbx (s : State) (l : LaneId) (x : Lane) : (s.setLane l x).mbx = s.mbx := by cases l <;> rfl
@[simp] theorem State.setLane_locks (s : State) (l : LaneId) (x : Lane) : (s.setLane l x).locks = s.locks := by cases l <;> rfl
@[simp] theorem State.setLane_pmc (s : State) (l : LaneId) (x : Lane) : (s.setLane l x).pmc = s.pmc := by cases l <;> rfl
@[simp] theorem State.setLane_wrap (s : State) (l : LaneId) (x : Lane) : (s.setLane l x).wrap = s.wrap := by cases l <;> rfl
@[simp] theorem State.setLane_pwr (s : State) (l : LaneId) (x : Lane) : (s.setLane l x).pwr = s.pwr := by cases l <;> rfl
@[simp] theorem State.setLane_port (s : State) (l : LaneId) (x : Lane) : (s.setLane l x).port = s.port := by cases l <;> rfl
@[simp] theorem State.setLane_flags (s : State) (l : LaneId) (x : Lane) : (s.setLane l x).flags = s.flags := by cases l <;> rfl
@[simp] theorem State.setLane_mirror (s : State) (l : LaneId) (x : Lane) : (s.setLane l x).mirror = s.mirror := by cases l <;> rfl
@[simp] theorem State.setLane_bus (s : State) (l : LaneId) (x : Lane) : (s.setLane l x).bus = s.bus := by cases l <;> rfl
@[simp] theorem State.setLane_out (s : State) (l : LaneId) (x : Lane) : (s.setLane l x).out = s.out := by cases l <;> rfl
@[simp] theorem State.setLane_free (s : State) (l : LaneId) (x : Lane) : (s.setLane l x).free = s.free := by cases l <;> rfl

/-! ### The fields that `onLane` leaves -/

@[simp] theorem State.onLane_pending (s : State) (l : LaneId) (f : Lane → Lane) : (s.onLane l f).pending = s.pending := by cases l <;> rfl
@[simp] theorem State.onLane_now (s : State) (l : LaneId) (f : Lane → Lane) : (s.onLane l f).now = s.now := by cases l <;> rfl
@[simp] theorem State.onLane_take (s : State) (l : LaneId) (f : Lane → Lane) : (s.onLane l f).take = s.take := by cases l <;> rfl
@[simp] theorem State.onLane_sys (s : State) (l : LaneId) (f : Lane → Lane) : (s.onLane l f).sys = s.sys := by cases l <;> rfl
@[simp] theorem State.onLane_vote (s : State) (l : LaneId) (f : Lane → Lane) : (s.onLane l f).vote = s.vote := by cases l <;> rfl
@[simp] theorem State.onLane_net (s : State) (l : LaneId) (f : Lane → Lane) : (s.onLane l f).net = s.net := by cases l <;> rfl
@[simp] theorem State.onLane_ses (s : State) (l : LaneId) (f : Lane → Lane) : (s.onLane l f).ses = s.ses := by cases l <;> rfl
@[simp] theorem State.onLane_pair (s : State) (l : LaneId) (f : Lane → Lane) : (s.onLane l f).pair = s.pair := by cases l <;> rfl
@[simp] theorem State.onLane_wit (s : State) (l : LaneId) (f : Lane → Lane) : (s.onLane l f).wit = s.wit := by cases l <;> rfl
@[simp] theorem State.onLane_fio (s : State) (l : LaneId) (f : Lane → Lane) : (s.onLane l f).fio = s.fio := by cases l <;> rfl
@[simp] theorem State.onLane_reel (s : State) (l : LaneId) (f : Lane → Lane) : (s.onLane l f).reel = s.reel := by cases l <;> rfl
@[simp] theorem State.onLane_stg (s : State) (l : LaneId) (f : Lane → Lane) : (s.onLane l f).stg = s.stg := by cases l <;> rfl
@[simp] theorem State.onLane_evt (s : State) (l : LaneId) (f : Lane → Lane) : (s.onLane l f).evt = s.evt := by cases l <;> rfl
@[simp] theorem State.onLane_mbx (s : State) (l : LaneId) (f : Lane → Lane) : (s.onLane l f).mbx = s.mbx := by cases l <;> rfl
@[simp] theorem State.onLane_locks (s : State) (l : LaneId) (f : Lane → Lane) : (s.onLane l f).locks = s.locks := by cases l <;> rfl
@[simp] theorem State.onLane_pmc (s : State) (l : LaneId) (f : Lane → Lane) : (s.onLane l f).pmc = s.pmc := by cases l <;> rfl
@[simp] theorem State.onLane_wrap (s : State) (l : LaneId) (f : Lane → Lane) : (s.onLane l f).wrap = s.wrap := by cases l <;> rfl
@[simp] theorem State.onLane_pwr (s : State) (l : LaneId) (f : Lane → Lane) : (s.onLane l f).pwr = s.pwr := by cases l <;> rfl
@[simp] theorem State.onLane_port (s : State) (l : LaneId) (f : Lane → Lane) : (s.onLane l f).port = s.port := by cases l <;> rfl
@[simp] theorem State.onLane_flags (s : State) (l : LaneId) (f : Lane → Lane) : (s.onLane l f).flags = s.flags := by cases l <;> rfl
@[simp] theorem State.onLane_mirror (s : State) (l : LaneId) (f : Lane → Lane) : (s.onLane l f).mirror = s.mirror := by cases l <;> rfl
@[simp] theorem State.onLane_bus (s : State) (l : LaneId) (f : Lane → Lane) : (s.onLane l f).bus = s.bus := by cases l <;> rfl
@[simp] theorem State.onLane_out (s : State) (l : LaneId) (f : Lane → Lane) : (s.onLane l f).out = s.out := by cases l <;> rfl
@[simp] theorem State.onLane_free (s : State) (l : LaneId) (f : Lane → Lane) : (s.onLane l f).free = s.free := by cases l <;> rfl

/-! ### The fields that `onLanes` leaves -/

@[simp] theorem State.onLanes_pending (s : State) (f : LaneId → Lane → Lane) : (s.onLanes f).pending = s.pending := rfl
@[simp] theorem State.onLanes_now (s : State) (f : LaneId → Lane → Lane) : (s.onLanes f).now = s.now := rfl
@[simp] theorem State.onLanes_take (s : State) (f : LaneId → Lane → Lane) : (s.onLanes f).take = s.take := rfl
@[simp] theorem State.onLanes_sys (s : State) (f : LaneId → Lane → Lane) : (s.onLanes f).sys = s.sys := rfl
@[simp] theorem State.onLanes_vote (s : State) (f : LaneId → Lane → Lane) : (s.onLanes f).vote = s.vote := rfl
@[simp] theorem State.onLanes_net (s : State) (f : LaneId → Lane → Lane) : (s.onLanes f).net = s.net := rfl
@[simp] theorem State.onLanes_ses (s : State) (f : LaneId → Lane → Lane) : (s.onLanes f).ses = s.ses := rfl
@[simp] theorem State.onLanes_pair (s : State) (f : LaneId → Lane → Lane) : (s.onLanes f).pair = s.pair := rfl
@[simp] theorem State.onLanes_wit (s : State) (f : LaneId → Lane → Lane) : (s.onLanes f).wit = s.wit := rfl
@[simp] theorem State.onLanes_fio (s : State) (f : LaneId → Lane → Lane) : (s.onLanes f).fio = s.fio := rfl
@[simp] theorem State.onLanes_reel (s : State) (f : LaneId → Lane → Lane) : (s.onLanes f).reel = s.reel := rfl
@[simp] theorem State.onLanes_stg (s : State) (f : LaneId → Lane → Lane) : (s.onLanes f).stg = s.stg := rfl
@[simp] theorem State.onLanes_evt (s : State) (f : LaneId → Lane → Lane) : (s.onLanes f).evt = s.evt := rfl
@[simp] theorem State.onLanes_mbx (s : State) (f : LaneId → Lane → Lane) : (s.onLanes f).mbx = s.mbx := rfl
@[simp] theorem State.onLanes_locks (s : State) (f : LaneId → Lane → Lane) : (s.onLanes f).locks = s.locks := rfl
@[simp] theorem State.onLanes_pmc (s : State) (f : LaneId → Lane → Lane) : (s.onLanes f).pmc = s.pmc := rfl
@[simp] theorem State.onLanes_wrap (s : State) (f : LaneId → Lane → Lane) : (s.onLanes f).wrap = s.wrap := rfl
@[simp] theorem State.onLanes_pwr (s : State) (f : LaneId → Lane → Lane) : (s.onLanes f).pwr = s.pwr := rfl
@[simp] theorem State.onLanes_port (s : State) (f : LaneId → Lane → Lane) : (s.onLanes f).port = s.port := rfl
@[simp] theorem State.onLanes_flags (s : State) (f : LaneId → Lane → Lane) : (s.onLanes f).flags = s.flags := rfl
@[simp] theorem State.onLanes_mirror (s : State) (f : LaneId → Lane → Lane) : (s.onLanes f).mirror = s.mirror := rfl
@[simp] theorem State.onLanes_bus (s : State) (f : LaneId → Lane → Lane) : (s.onLanes f).bus = s.bus := rfl
@[simp] theorem State.onLanes_out (s : State) (f : LaneId → Lane → Lane) : (s.onLanes f).out = s.out := rfl
@[simp] theorem State.onLanes_free (s : State) (f : LaneId → Lane → Lane) : (s.onLanes f).free = s.free := rfl

/-! ### One value of three -/

@[simp] theorem Three.get_set {α : Type} (t : Three α) (l : LaneId) (x : α) : (t.set l x).get l = x := by cases l <;> rfl

theorem Three.get_set_of_ne {α : Type} (t : Three α) {k l : LaneId} (x : α) (h : k ≠ l) : (t.set l x).get k = t.get k := by
  cases k <;> cases l <;> first | rfl | exact absurd rfl h

/-! ### What a lane holds, by lane -/

/-- A record update of another field leaves every lane. -/
theorem State.lane_congr {s t : State} (a : t.laneA = s.laneA) (b : t.laneB = s.laneB) (c : t.laneC = s.laneC) (l : LaneId) :
    t.lane l = s.lane l := by cases l <;> assumption

@[simp] theorem State.lane_with_now (s : State) (x : NetTime) (l : LaneId) : State.lane { s with now := x } l = s.lane l := by cases l <;> rfl
@[simp] theorem State.lane_with_take (s : State) (x : TakeSt) (l : LaneId) : State.lane { s with take := x } l = s.lane l := by cases l <;> rfl
@[simp] theorem State.lane_with_sys (s : State) (x : SysSt) (l : LaneId) : State.lane { s with sys := x } l = s.lane l := by cases l <;> rfl
@[simp] theorem State.lane_with_vote (s : State) (x : VoteSt) (l : LaneId) : State.lane { s with vote := x } l = s.lane l := by cases l <;> rfl
@[simp] theorem State.lane_with_net (s : State) (x : NetSt) (l : LaneId) : State.lane { s with net := x } l = s.lane l := by cases l <;> rfl
@[simp] theorem State.lane_with_ses (s : State) (x : SesSt) (l : LaneId) : State.lane { s with ses := x } l = s.lane l := by cases l <;> rfl
@[simp] theorem State.lane_with_pair (s : State) (x : PairSt) (l : LaneId) : State.lane { s with pair := x } l = s.lane l := by cases l <;> rfl
@[simp] theorem State.lane_with_wit (s : State) (x : WitSt) (l : LaneId) : State.lane { s with wit := x } l = s.lane l := by cases l <;> rfl
@[simp] theorem State.lane_with_fio (s : State) (x : FioSt) (l : LaneId) : State.lane { s with fio := x } l = s.lane l := by cases l <;> rfl
@[simp] theorem State.lane_with_reel (s : State) (x : ReelSt) (l : LaneId) : State.lane { s with reel := x } l = s.lane l := by cases l <;> rfl
@[simp] theorem State.lane_with_stg (s : State) (x : StgSt) (l : LaneId) : State.lane { s with stg := x } l = s.lane l := by cases l <;> rfl
@[simp] theorem State.lane_with_evt (s : State) (x : EvtSt) (l : LaneId) : State.lane { s with evt := x } l = s.lane l := by cases l <;> rfl
@[simp] theorem State.lane_with_mbx (s : State) (x : MbxSt) (l : LaneId) : State.lane { s with mbx := x } l = s.lane l := by cases l <;> rfl
@[simp] theorem State.lane_with_locks (s : State) (x : List (Option (BitVec 3))) (l : LaneId) : State.lane { s with locks := x } l = s.lane l := by cases l <;> rfl
@[simp] theorem State.lane_with_pmc (s : State) (x : PmcSt) (l : LaneId) : State.lane { s with pmc := x } l = s.lane l := by cases l <;> rfl
@[simp] theorem State.lane_with_wrap (s : State) (x : WrapSt) (l : LaneId) : State.lane { s with wrap := x } l = s.lane l := by cases l <;> rfl
@[simp] theorem State.lane_with_pwr (s : State) (x : PwrSt) (l : LaneId) : State.lane { s with pwr := x } l = s.lane l := by cases l <;> rfl
@[simp] theorem State.lane_with_port (s : State) (x : PortSt) (l : LaneId) : State.lane { s with port := x } l = s.lane l := by cases l <;> rfl
@[simp] theorem State.lane_with_flags (s : State) (x : FlagRegs) (l : LaneId) : State.lane { s with flags := x } l = s.lane l := by cases l <;> rfl
@[simp] theorem State.lane_with_mirror (s : State) (x : MirrorSt) (l : LaneId) : State.lane { s with mirror := x } l = s.lane l := by cases l <;> rfl
@[simp] theorem State.lane_with_bus (s : State) (x : Bus) (l : LaneId) : State.lane { s with bus := x } l = s.lane l := by cases l <;> rfl
@[simp] theorem State.lane_with_out (s : State) (x : List Output) (l : LaneId) : State.lane { s with out := x } l = s.lane l := by cases l <;> rfl
@[simp] theorem State.lane_with_free (s : State) (x : Nat) (l : LaneId) : State.lane { s with free := x } l = s.lane l := by cases l <;> rfl
@[simp] theorem State.lane_with_pending (s : State) (x : List Instr) (l : LaneId) : State.lane { s with pending := x } l = s.lane l := by cases l <;> rfl

end Sys2Proof.Machine
end

