-- ==== Sys2Proof/Laws/Notices.lean ====
section
/-! SUPPORT. What the notices of the module leave: raising a flag, counting events and writing a record change flags, events, counters
and Reel alone. -/

namespace Sys2Proof.Machine

open Sys2Proof

/-! ### The relation -/

theorem State.noticed_refl (s : State) : s.noticed s := ⟨s.flags, s.evt, s.pmc, s.reel, rfl⟩

theorem State.noticed_trans {s t u : State} (h : s.noticed t) (k : t.noticed u) : s.noticed u := by
  obtain ⟨f, e, p, r, rfl⟩ := h
  obtain ⟨f', e', p', r', rfl⟩ := k
  exact ⟨f', e', p', r', rfl⟩

theorem State.noticed_flags (s : State) (f : FlagRegs) (e : EvtSt) : s.noticed { s with flags := f, evt := e } := ⟨f, e, s.pmc, s.reel, rfl⟩

theorem State.noticed_pmc (s : State) (p : PmcSt) : s.noticed { s with pmc := p } := ⟨s.flags, s.evt, p, s.reel, rfl⟩

theorem State.noticed_reel (s : State) (r : ReelSt) : s.noticed { s with reel := r } := ⟨s.flags, s.evt, s.pmc, r, rfl⟩

theorem State.noticed_of_eq {s t : State} (h : t = s) : s.noticed t := h ▸ s.noticed_refl

/-! ### Flags and counters -/

theorem State.pmcBump_eq (s : State) (first cnt : Nat) (e : PmcEvent) (n : Nat) :
    ∃ p, (s.pmcBump first cnt e n).1 = { s with pmc := p } := by
  unfold State.pmcBump
  split
  · exact ⟨s.pmc, rfl⟩
  · exact ⟨_, rfl⟩

theorem State.noticed_pmcBump (s : State) (first cnt : Nat) (e : PmcEvent) (n : Nat) : s.noticed (s.pmcBump first cnt e n).1 := by
  obtain ⟨p, h⟩ := s.pmcBump_eq first cnt e n
  exact h ▸ s.noticed_pmc p

theorem State.noticed_raiseN (k : Nat) : ∀ (s : State) (b : Blk) (i : Nat), s.noticed (State.raiseN k s b i) := by
  induction k with
  | zero => intro s b i; exact s.noticed_flags _ _
  | succ k ih =>
    intro s b i
    unfold State.raiseN
    have h := s.noticed_flags (s.flags.set b (setBit (s.flags.get b) i true)) (if i < 16 then evtPend s.evt (16 * b.num + i) else s.evt)
    dsimp only
    generalize ({ s with flags := _, evt := _ } : State) = t at h ⊢
    split
    · have h2 := State.noticed_trans h (t.noticed_pmcBump 240 8 { code := 0xA4, level := none, master := none, addr := none } 1)
      generalize t.pmcBump 240 8 { code := 0xA4, level := none, master := none, addr := none } 1 = r at h2 ⊢
      split <;> split <;>
        first
        | exact State.noticed_trans h2 (State.noticed_trans (ih _ _ _) (ih _ _ _))
        | exact State.noticed_trans h2 (ih _ _ _)
        | exact h2
    · exact h

theorem State.noticed_raise (s : State) (b : Blk) (i : Nat) : s.noticed (s.raise b i) := s.noticed_raiseN 3 b i

theorem State.noticed_raiseIf (s : State) (c : Bool) (b : Blk) (i : Nat) : s.noticed (s.raiseIf c b i) := by
  unfold State.raiseIf; split
  · exact s.noticed_raise b i
  · exact s.noticed_refl

theorem State.sampled_eq (s : State) (first : Nat) (h : ¬ (192 ≤ first ∧ first < 216)) : s.sampled first = s.raise .pmc 2 := by
  unfold State.sampled
  rw [if_neg h]

/-- Events outside the sequencers' blocks. -/
theorem State.noticed_countN (s : State) (first cnt : Nat) (e : PmcEvent) (n : Nat) (h : ¬ (192 ≤ first ∧ first < 216)) :
    s.noticed (s.countN first cnt e n) := by
  have h2 := s.noticed_pmcBump first cnt e n
  unfold State.countN
  generalize s.pmcBump first cnt e n = r at h2 ⊢
  obtain ⟨t, w, x⟩ := r
  have h3 : s.noticed (if w = true then t.raise Blk.pmc 0 else t) := by
    cases w
    · exact h2
    · exact State.noticed_trans h2 (t.noticed_raise _ _)
  cases x
  · exact h3
  · show s.noticed (State.sampled _ first)
    rw [State.sampled_eq _ _ h]
    exact State.noticed_trans h3 (State.noticed_raise _ _ _)

theorem State.noticed_accessEvent (s : State) (code : Byte) (m : BitVec 3) (a : Word) : s.noticed (s.accessEvent code m a) :=
  s.noticed_countN 240 8 _ 1 (by decide)

theorem State.noticed_switched (s old : State) : s.noticed (State.switched s old) := s.noticed_countN 232 8 _ _ (by decide)

/-! ### Records -/

theorem State.noticed_reelFlush (s : State) : s.noticed s.reelFlush := by
  unfold State.reelFlush
  split
  · exact s.noticed_refl
  · exact State.noticed_trans (s.noticed_reel _) (State.noticed_trans (State.noticed_raiseIf _ _ _ _) (State.noticed_raiseIf _ _ _ _))

theorem State.noticed_reelBuffer (s : State) (b : RecBody) : s.noticed (s.reelBuffer b) := by
  unfold State.reelBuffer
  dsimp only
  split
  · exact State.noticed_trans (s.noticed_reel _) (State.noticed_raise _ _ _)
  · split
    · split
      · exact State.noticed_trans (s.noticed_reel _) (State.noticed_raise _ _ _)
      · exact s.noticed_reel _
    · exact s.noticed_reel _

theorem State.noticed_reelFlushNow (s : State) : s.noticed s.reelFlushNow := by
  unfold State.reelFlushNow; split
  · exact s.noticed_reelFlush
  · exact s.noticed_refl

theorem State.noticed_reelEnter (s : State) (b : RecBody) : s.noticed (s.reelEnter b) := by
  unfold State.reelEnter
  split
  · exact s.noticed_reel _
  · split
    · split
      · exact State.noticed_trans (s.noticed_reel _) (State.noticed_raise _ _ _)
      · exact State.noticed_trans (s.noticed_reel _) (State.noticed_trans (State.noticed_reelBuffer _ _) (State.noticed_reelFlushNow _))
    · exact State.noticed_trans (s.noticed_reelBuffer b) (State.noticed_reelFlushNow _)

theorem State.noticed_record (s : State) (source : BitVec 4) (code : Byte) (data : Bytes) : s.noticed (s.record source code data) :=
  s.noticed_reelEnter _

/-! ### What a notice leaves -/

theorem State.pending_of_noticed {s t : State} (h : s.noticed t) : t.pending = s.pending := by obtain ⟨_, _, _, _, rfl⟩ := h; rfl
theorem State.now_of_noticed {s t : State} (h : s.noticed t) : t.now = s.now := by obtain ⟨_, _, _, _, rfl⟩ := h; rfl
theorem State.take_of_noticed {s t : State} (h : s.noticed t) : t.take = s.take := by obtain ⟨_, _, _, _, rfl⟩ := h; rfl
theorem State.sys_of_noticed {s t : State} (h : s.noticed t) : t.sys = s.sys := by obtain ⟨_, _, _, _, rfl⟩ := h; rfl
theorem State.vote_of_noticed {s t : State} (h : s.noticed t) : t.vote = s.vote := by obtain ⟨_, _, _, _, rfl⟩ := h; rfl
theorem State.net_of_noticed {s t : State} (h : s.noticed t) : t.net = s.net := by obtain ⟨_, _, _, _, rfl⟩ := h; rfl
theorem State.ses_of_noticed {s t : State} (h : s.noticed t) : t.ses = s.ses := by obtain ⟨_, _, _, _, rfl⟩ := h; rfl
theorem State.pair_of_noticed {s t : State} (h : s.noticed t) : t.pair = s.pair := by obtain ⟨_, _, _, _, rfl⟩ := h; rfl
theorem State.wit_of_noticed {s t : State} (h : s.noticed t) : t.wit = s.wit := by obtain ⟨_, _, _, _, rfl⟩ := h; rfl
theorem State.fio_of_noticed {s t : State} (h : s.noticed t) : t.fio = s.fio := by obtain ⟨_, _, _, _, rfl⟩ := h; rfl
theorem State.stg_of_noticed {s t : State} (h : s.noticed t) : t.stg = s.stg := by obtain ⟨_, _, _, _, rfl⟩ := h; rfl
theorem State.mbx_of_noticed {s t : State} (h : s.noticed t) : t.mbx = s.mbx := by obtain ⟨_, _, _, _, rfl⟩ := h; rfl
theorem State.locks_of_noticed {s t : State} (h : s.noticed t) : t.locks = s.locks := by obtain ⟨_, _, _, _, rfl⟩ := h; rfl
theorem State.wrap_of_noticed {s t : State} (h : s.noticed t) : t.wrap = s.wrap := by obtain ⟨_, _, _, _, rfl⟩ := h; rfl
theorem State.pwr_of_noticed {s t : State} (h : s.noticed t) : t.pwr = s.pwr := by obtain ⟨_, _, _, _, rfl⟩ := h; rfl
theorem State.port_of_noticed {s t : State} (h : s.noticed t) : t.port = s.port := by obtain ⟨_, _, _, _, rfl⟩ := h; rfl
theorem State.mirror_of_noticed {s t : State} (h : s.noticed t) : t.mirror = s.mirror := by obtain ⟨_, _, _, _, rfl⟩ := h; rfl
theorem State.bus_of_noticed {s t : State} (h : s.noticed t) : t.bus = s.bus := by obtain ⟨_, _, _, _, rfl⟩ := h; rfl
theorem State.out_of_noticed {s t : State} (h : s.noticed t) : t.out = s.out := by obtain ⟨_, _, _, _, rfl⟩ := h; rfl
theorem State.free_of_noticed {s t : State} (h : s.noticed t) : t.free = s.free := by obtain ⟨_, _, _, _, rfl⟩ := h; rfl
theorem State.laneA_of_noticed {s t : State} (h : s.noticed t) : t.laneA = s.laneA := by obtain ⟨_, _, _, _, rfl⟩ := h; rfl
theorem State.laneB_of_noticed {s t : State} (h : s.noticed t) : t.laneB = s.laneB := by obtain ⟨_, _, _, _, rfl⟩ := h; rfl
theorem State.laneC_of_noticed {s t : State} (h : s.noticed t) : t.laneC = s.laneC := by obtain ⟨_, _, _, _, rfl⟩ := h; rfl
theorem State.lane_of_noticed {s t : State} (h : s.noticed t) (l : LaneId) : t.lane l = s.lane l := by
  obtain ⟨_, _, _, _, rfl⟩ := h; cases l <;> rfl

/-! ### The fields that `raise` leaves -/

@[simp] theorem State.raise_pending (s : State) (b : Blk) (i : Nat) : (s.raise b i).pending = s.pending := State.pending_of_noticed (s.noticed_raise b i)
@[simp] theorem State.raise_now (s : State) (b : Blk) (i : Nat) : (s.raise b i).now = s.now := State.now_of_noticed (s.noticed_raise b i)
@[simp] theorem State.raise_take (s : State) (b : Blk) (i : Nat) : (s.raise b i).take = s.take := State.take_of_noticed (s.noticed_raise b i)
@[simp] theorem State.raise_sys (s : State) (b : Blk) (i : Nat) : (s.raise b i).sys = s.sys := State.sys_of_noticed (s.noticed_raise b i)
@[simp] theorem State.raise_vote (s : State) (b : Blk) (i : Nat) : (s.raise b i).vote = s.vote := State.vote_of_noticed (s.noticed_raise b i)
@[simp] theorem State.raise_net (s : State) (b : Blk) (i : Nat) : (s.raise b i).net = s.net := State.net_of_noticed (s.noticed_raise b i)
@[simp] theorem State.raise_ses (s : State) (b : Blk) (i : Nat) : (s.raise b i).ses = s.ses := State.ses_of_noticed (s.noticed_raise b i)
@[simp] theorem State.raise_pair (s : State) (b : Blk) (i : Nat) : (s.raise b i).pair = s.pair := State.pair_of_noticed (s.noticed_raise b i)
@[simp] theorem State.raise_wit (s : State) (b : Blk) (i : Nat) : (s.raise b i).wit = s.wit := State.wit_of_noticed (s.noticed_raise b i)
@[simp] theorem State.raise_fio (s : State) (b : Blk) (i : Nat) : (s.raise b i).fio = s.fio := State.fio_of_noticed (s.noticed_raise b i)
@[simp] theorem State.raise_stg (s : State) (b : Blk) (i : Nat) : (s.raise b i).stg = s.stg := State.stg_of_noticed (s.noticed_raise b i)
@[simp] theorem State.raise_mbx (s : State) (b : Blk) (i : Nat) : (s.raise b i).mbx = s.mbx := State.mbx_of_noticed (s.noticed_raise b i)
@[simp] theorem State.raise_locks (s : State) (b : Blk) (i : Nat) : (s.raise b i).locks = s.locks := State.locks_of_noticed (s.noticed_raise b i)
@[simp] theorem State.raise_wrap (s : State) (b : Blk) (i : Nat) : (s.raise b i).wrap = s.wrap := State.wrap_of_noticed (s.noticed_raise b i)
@[simp] theorem State.raise_pwr (s : State) (b : Blk) (i : Nat) : (s.raise b i).pwr = s.pwr := State.pwr_of_noticed (s.noticed_raise b i)
@[simp] theorem State.raise_port (s : State) (b : Blk) (i : Nat) : (s.raise b i).port = s.port := State.port_of_noticed (s.noticed_raise b i)
@[simp] theorem State.raise_mirror (s : State) (b : Blk) (i : Nat) : (s.raise b i).mirror = s.mirror := State.mirror_of_noticed (s.noticed_raise b i)
@[simp] theorem State.raise_bus (s : State) (b : Blk) (i : Nat) : (s.raise b i).bus = s.bus := State.bus_of_noticed (s.noticed_raise b i)
@[simp] theorem State.raise_out (s : State) (b : Blk) (i : Nat) : (s.raise b i).out = s.out := State.out_of_noticed (s.noticed_raise b i)
@[simp] theorem State.raise_free (s : State) (b : Blk) (i : Nat) : (s.raise b i).free = s.free := State.free_of_noticed (s.noticed_raise b i)
@[simp] theorem State.raise_laneA (s : State) (b : Blk) (i : Nat) : (s.raise b i).laneA = s.laneA := State.laneA_of_noticed (s.noticed_raise b i)
@[simp] theorem State.raise_laneB (s : State) (b : Blk) (i : Nat) : (s.raise b i).laneB = s.laneB := State.laneB_of_noticed (s.noticed_raise b i)
@[simp] theorem State.raise_laneC (s : State) (b : Blk) (i : Nat) : (s.raise b i).laneC = s.laneC := State.laneC_of_noticed (s.noticed_raise b i)
@[simp] theorem State.raise_lane (s : State) (b : Blk) (i : Nat) (l : LaneId) : (s.raise b i).lane l = s.lane l := State.lane_of_noticed (s.noticed_raise b i) l

/-! ### The fields that `raiseIf` leaves -/

@[simp] theorem State.raiseIf_pending (s : State) (c : Bool) (b : Blk) (i : Nat) : (s.raiseIf c b i).pending = s.pending := State.pending_of_noticed (s.noticed_raiseIf c b i)
@[simp] theorem State.raiseIf_now (s : State) (c : Bool) (b : Blk) (i : Nat) : (s.raiseIf c b i).now = s.now := State.now_of_noticed (s.noticed_raiseIf c b i)
@[simp] theorem State.raiseIf_take (s : State) (c : Bool) (b : Blk) (i : Nat) : (s.raiseIf c b i).take = s.take := State.take_of_noticed (s.noticed_raiseIf c b i)
@[simp] theorem State.raiseIf_sys (s : State) (c : Bool) (b : Blk) (i : Nat) : (s.raiseIf c b i).sys = s.sys := State.sys_of_noticed (s.noticed_raiseIf c b i)
@[simp] theorem State.raiseIf_vote (s : State) (c : Bool) (b : Blk) (i : Nat) : (s.raiseIf c b i).vote = s.vote := State.vote_of_noticed (s.noticed_raiseIf c b i)
@[simp] theorem State.raiseIf_net (s : State) (c : Bool) (b : Blk) (i : Nat) : (s.raiseIf c b i).net = s.net := State.net_of_noticed (s.noticed_raiseIf c b i)
@[simp] theorem State.raiseIf_ses (s : State) (c : Bool) (b : Blk) (i : Nat) : (s.raiseIf c b i).ses = s.ses := State.ses_of_noticed (s.noticed_raiseIf c b i)
@[simp] theorem State.raiseIf_pair (s : State) (c : Bool) (b : Blk) (i : Nat) : (s.raiseIf c b i).pair = s.pair := State.pair_of_noticed (s.noticed_raiseIf c b i)
@[simp] theorem State.raiseIf_wit (s : State) (c : Bool) (b : Blk) (i : Nat) : (s.raiseIf c b i).wit = s.wit := State.wit_of_noticed (s.noticed_raiseIf c b i)
@[simp] theorem State.raiseIf_fio (s : State) (c : Bool) (b : Blk) (i : Nat) : (s.raiseIf c b i).fio = s.fio := State.fio_of_noticed (s.noticed_raiseIf c b i)
@[simp] theorem State.raiseIf_stg (s : State) (c : Bool) (b : Blk) (i : Nat) : (s.raiseIf c b i).stg = s.stg := State.stg_of_noticed (s.noticed_raiseIf c b i)
@[simp] theorem State.raiseIf_mbx (s : State) (c : Bool) (b : Blk) (i : Nat) : (s.raiseIf c b i).mbx = s.mbx := State.mbx_of_noticed (s.noticed_raiseIf c b i)
@[simp] theorem State.raiseIf_locks (s : State) (c : Bool) (b : Blk) (i : Nat) : (s.raiseIf c b i).locks = s.locks := State.locks_of_noticed (s.noticed_raiseIf c b i)
@[simp] theorem State.raiseIf_wrap (s : State) (c : Bool) (b : Blk) (i : Nat) : (s.raiseIf c b i).wrap = s.wrap := State.wrap_of_noticed (s.noticed_raiseIf c b i)
@[simp] theorem State.raiseIf_pwr (s : State) (c : Bool) (b : Blk) (i : Nat) : (s.raiseIf c b i).pwr = s.pwr := State.pwr_of_noticed (s.noticed_raiseIf c b i)
@[simp] theorem State.raiseIf_port (s : State) (c : Bool) (b : Blk) (i : Nat) : (s.raiseIf c b i).port = s.port := State.port_of_noticed (s.noticed_raiseIf c b i)
@[simp] theorem State.raiseIf_mirror (s : State) (c : Bool) (b : Blk) (i : Nat) : (s.raiseIf c b i).mirror = s.mirror := State.mirror_of_noticed (s.noticed_raiseIf c b i)
@[simp] theorem State.raiseIf_bus (s : State) (c : Bool) (b : Blk) (i : Nat) : (s.raiseIf c b i).bus = s.bus := State.bus_of_noticed (s.noticed_raiseIf c b i)
@[simp] theorem State.raiseIf_out (s : State) (c : Bool) (b : Blk) (i : Nat) : (s.raiseIf c b i).out = s.out := State.out_of_noticed (s.noticed_raiseIf c b i)
@[simp] theorem State.raiseIf_free (s : State) (c : Bool) (b : Blk) (i : Nat) : (s.raiseIf c b i).free = s.free := State.free_of_noticed (s.noticed_raiseIf c b i)
@[simp] theorem State.raiseIf_laneA (s : State) (c : Bool) (b : Blk) (i : Nat) : (s.raiseIf c b i).laneA = s.laneA := State.laneA_of_noticed (s.noticed_raiseIf c b i)
@[simp] theorem State.raiseIf_laneB (s : State) (c : Bool) (b : Blk) (i : Nat) : (s.raiseIf c b i).laneB = s.laneB := State.laneB_of_noticed (s.noticed_raiseIf c b i)
@[simp] theorem State.raiseIf_laneC (s : State) (c : Bool) (b : Blk) (i : Nat) : (s.raiseIf c b i).laneC = s.laneC := State.laneC_of_noticed (s.noticed_raiseIf c b i)
@[simp] theorem State.raiseIf_lane (s : State) (c : Bool) (b : Blk) (i : Nat) (l : LaneId) : (s.raiseIf c b i).lane l = s.lane l := State.lane_of_noticed (s.noticed_raiseIf c b i) l

/-! ### The fields that `record` leaves -/

@[simp] theorem State.record_pending (s : State) (src : BitVec 4) (code : Byte) (data : Bytes) : (s.record src code data).pending = s.pending := State.pending_of_noticed (s.noticed_record src code data)
@[simp] theorem State.record_now (s : State) (src : BitVec 4) (code : Byte) (data : Bytes) : (s.record src code data).now = s.now := State.now_of_noticed (s.noticed_record src code data)
@[simp] theorem State.record_take (s : State) (src : BitVec 4) (code : Byte) (data : Bytes) : (s.record src code data).take = s.take := State.take_of_noticed (s.noticed_record src code data)
@[simp] theorem State.record_sys (s : State) (src : BitVec 4) (code : Byte) (data : Bytes) : (s.record src code data).sys = s.sys := State.sys_of_noticed (s.noticed_record src code data)
@[simp] theorem State.record_vote (s : State) (src : BitVec 4) (code : Byte) (data : Bytes) : (s.record src code data).vote = s.vote := State.vote_of_noticed (s.noticed_record src code data)
@[simp] theorem State.record_net (s : State) (src : BitVec 4) (code : Byte) (data : Bytes) : (s.record src code data).net = s.net := State.net_of_noticed (s.noticed_record src code data)
@[simp] theorem State.record_ses (s : State) (src : BitVec 4) (code : Byte) (data : Bytes) : (s.record src code data).ses = s.ses := State.ses_of_noticed (s.noticed_record src code data)
@[simp] theorem State.record_pair (s : State) (src : BitVec 4) (code : Byte) (data : Bytes) : (s.record src code data).pair = s.pair := State.pair_of_noticed (s.noticed_record src code data)
@[simp] theorem State.record_wit (s : State) (src : BitVec 4) (code : Byte) (data : Bytes) : (s.record src code data).wit = s.wit := State.wit_of_noticed (s.noticed_record src code data)
@[simp] theorem State.record_fio (s : State) (src : BitVec 4) (code : Byte) (data : Bytes) : (s.record src code data).fio = s.fio := State.fio_of_noticed (s.noticed_record src code data)
@[simp] theorem State.record_stg (s : State) (src : BitVec 4) (code : Byte) (data : Bytes) : (s.record src code data).stg = s.stg := State.stg_of_noticed (s.noticed_record src code data)
@[simp] theorem State.record_mbx (s : State) (src : BitVec 4) (code : Byte) (data : Bytes) : (s.record src code data).mbx = s.mbx := State.mbx_of_noticed (s.noticed_record src code data)
@[simp] theorem State.record_locks (s : State) (src : BitVec 4) (code : Byte) (data : Bytes) : (s.record src code data).locks = s.locks := State.locks_of_noticed (s.noticed_record src code data)
@[simp] theorem State.record_wrap (s : State) (src : BitVec 4) (code : Byte) (data : Bytes) : (s.record src code data).wrap = s.wrap := State.wrap_of_noticed (s.noticed_record src code data)
@[simp] theorem State.record_pwr (s : State) (src : BitVec 4) (code : Byte) (data : Bytes) : (s.record src code data).pwr = s.pwr := State.pwr_of_noticed (s.noticed_record src code data)
@[simp] theorem State.record_port (s : State) (src : BitVec 4) (code : Byte) (data : Bytes) : (s.record src code data).port = s.port := State.port_of_noticed (s.noticed_record src code data)
@[simp] theorem State.record_mirror (s : State) (src : BitVec 4) (code : Byte) (data : Bytes) : (s.record src code data).mirror = s.mirror := State.mirror_of_noticed (s.noticed_record src code data)
@[simp] theorem State.record_bus (s : State) (src : BitVec 4) (code : Byte) (data : Bytes) : (s.record src code data).bus = s.bus := State.bus_of_noticed (s.noticed_record src code data)
@[simp] theorem State.record_out (s : State) (src : BitVec 4) (code : Byte) (data : Bytes) : (s.record src code data).out = s.out := State.out_of_noticed (s.noticed_record src code data)
@[simp] theorem State.record_free (s : State) (src : BitVec 4) (code : Byte) (data : Bytes) : (s.record src code data).free = s.free := State.free_of_noticed (s.noticed_record src code data)
@[simp] theorem State.record_laneA (s : State) (src : BitVec 4) (code : Byte) (data : Bytes) : (s.record src code data).laneA = s.laneA := State.laneA_of_noticed (s.noticed_record src code data)
@[simp] theorem State.record_laneB (s : State) (src : BitVec 4) (code : Byte) (data : Bytes) : (s.record src code data).laneB = s.laneB := State.laneB_of_noticed (s.noticed_record src code data)
@[simp] theorem State.record_laneC (s : State) (src : BitVec 4) (code : Byte) (data : Bytes) : (s.record src code data).laneC = s.laneC := State.laneC_of_noticed (s.noticed_record src code data)
@[simp] theorem State.record_lane (s : State) (src : BitVec 4) (code : Byte) (data : Bytes) (l : LaneId) : (s.record src code data).lane l = s.lane l := State.lane_of_noticed (s.noticed_record src code data) l

/-! ### The fields that `reelEnter` leaves -/

@[simp] theorem State.reelEnter_pending (s : State) (b : RecBody) : (s.reelEnter b).pending = s.pending := State.pending_of_noticed (s.noticed_reelEnter b)
@[simp] theorem State.reelEnter_now (s : State) (b : RecBody) : (s.reelEnter b).now = s.now := State.now_of_noticed (s.noticed_reelEnter b)
@[simp] theorem State.reelEnter_take (s : State) (b : RecBody) : (s.reelEnter b).take = s.take := State.take_of_noticed (s.noticed_reelEnter b)
@[simp] theorem State.reelEnter_sys (s : State) (b : RecBody) : (s.reelEnter b).sys = s.sys := State.sys_of_noticed (s.noticed_reelEnter b)
@[simp] theorem State.reelEnter_vote (s : State) (b : RecBody) : (s.reelEnter b).vote = s.vote := State.vote_of_noticed (s.noticed_reelEnter b)
@[simp] theorem State.reelEnter_net (s : State) (b : RecBody) : (s.reelEnter b).net = s.net := State.net_of_noticed (s.noticed_reelEnter b)
@[simp] theorem State.reelEnter_ses (s : State) (b : RecBody) : (s.reelEnter b).ses = s.ses := State.ses_of_noticed (s.noticed_reelEnter b)
@[simp] theorem State.reelEnter_pair (s : State) (b : RecBody) : (s.reelEnter b).pair = s.pair := State.pair_of_noticed (s.noticed_reelEnter b)
@[simp] theorem State.reelEnter_wit (s : State) (b : RecBody) : (s.reelEnter b).wit = s.wit := State.wit_of_noticed (s.noticed_reelEnter b)
@[simp] theorem State.reelEnter_fio (s : State) (b : RecBody) : (s.reelEnter b).fio = s.fio := State.fio_of_noticed (s.noticed_reelEnter b)
@[simp] theorem State.reelEnter_stg (s : State) (b : RecBody) : (s.reelEnter b).stg = s.stg := State.stg_of_noticed (s.noticed_reelEnter b)
@[simp] theorem State.reelEnter_mbx (s : State) (b : RecBody) : (s.reelEnter b).mbx = s.mbx := State.mbx_of_noticed (s.noticed_reelEnter b)
@[simp] theorem State.reelEnter_locks (s : State) (b : RecBody) : (s.reelEnter b).locks = s.locks := State.locks_of_noticed (s.noticed_reelEnter b)
@[simp] theorem State.reelEnter_wrap (s : State) (b : RecBody) : (s.reelEnter b).wrap = s.wrap := State.wrap_of_noticed (s.noticed_reelEnter b)
@[simp] theorem State.reelEnter_pwr (s : State) (b : RecBody) : (s.reelEnter b).pwr = s.pwr := State.pwr_of_noticed (s.noticed_reelEnter b)
@[simp] theorem State.reelEnter_port (s : State) (b : RecBody) : (s.reelEnter b).port = s.port := State.port_of_noticed (s.noticed_reelEnter b)
@[simp] theorem State.reelEnter_mirror (s : State) (b : RecBody) : (s.reelEnter b).mirror = s.mirror := State.mirror_of_noticed (s.noticed_reelEnter b)
@[simp] theorem State.reelEnter_bus (s : State) (b : RecBody) : (s.reelEnter b).bus = s.bus := State.bus_of_noticed (s.noticed_reelEnter b)
@[simp] theorem State.reelEnter_out (s : State) (b : RecBody) : (s.reelEnter b).out = s.out := State.out_of_noticed (s.noticed_reelEnter b)
@[simp] theorem State.reelEnter_free (s : State) (b : RecBody) : (s.reelEnter b).free = s.free := State.free_of_noticed (s.noticed_reelEnter b)
@[simp] theorem State.reelEnter_laneA (s : State) (b : RecBody) : (s.reelEnter b).laneA = s.laneA := State.laneA_of_noticed (s.noticed_reelEnter b)
@[simp] theorem State.reelEnter_laneB (s : State) (b : RecBody) : (s.reelEnter b).laneB = s.laneB := State.laneB_of_noticed (s.noticed_reelEnter b)
@[simp] theorem State.reelEnter_laneC (s : State) (b : RecBody) : (s.reelEnter b).laneC = s.laneC := State.laneC_of_noticed (s.noticed_reelEnter b)
@[simp] theorem State.reelEnter_lane (s : State) (b : RecBody) (l : LaneId) : (s.reelEnter b).lane l = s.lane l := State.lane_of_noticed (s.noticed_reelEnter b) l

/-! ### The fields that `accessEvent` leaves -/

@[simp] theorem State.accessEvent_pending (s : State) (code : Byte) (m : BitVec 3) (a : Word) : (s.accessEvent code m a).pending = s.pending := State.pending_of_noticed (s.noticed_accessEvent code m a)
@[simp] theorem State.accessEvent_now (s : State) (code : Byte) (m : BitVec 3) (a : Word) : (s.accessEvent code m a).now = s.now := State.now_of_noticed (s.noticed_accessEvent code m a)
@[simp] theorem State.accessEvent_take (s : State) (code : Byte) (m : BitVec 3) (a : Word) : (s.accessEvent code m a).take = s.take := State.take_of_noticed (s.noticed_accessEvent code m a)
@[simp] theorem State.accessEvent_sys (s : State) (code : Byte) (m : BitVec 3) (a : Word) : (s.accessEvent code m a).sys = s.sys := State.sys_of_noticed (s.noticed_accessEvent code m a)
@[simp] theorem State.accessEvent_vote (s : State) (code : Byte) (m : BitVec 3) (a : Word) : (s.accessEvent code m a).vote = s.vote := State.vote_of_noticed (s.noticed_accessEvent code m a)
@[simp] theorem State.accessEvent_net (s : State) (code : Byte) (m : BitVec 3) (a : Word) : (s.accessEvent code m a).net = s.net := State.net_of_noticed (s.noticed_accessEvent code m a)
@[simp] theorem State.accessEvent_ses (s : State) (code : Byte) (m : BitVec 3) (a : Word) : (s.accessEvent code m a).ses = s.ses := State.ses_of_noticed (s.noticed_accessEvent code m a)
@[simp] theorem State.accessEvent_pair (s : State) (code : Byte) (m : BitVec 3) (a : Word) : (s.accessEvent code m a).pair = s.pair := State.pair_of_noticed (s.noticed_accessEvent code m a)
@[simp] theorem State.accessEvent_wit (s : State) (code : Byte) (m : BitVec 3) (a : Word) : (s.accessEvent code m a).wit = s.wit := State.wit_of_noticed (s.noticed_accessEvent code m a)
@[simp] theorem State.accessEvent_fio (s : State) (code : Byte) (m : BitVec 3) (a : Word) : (s.accessEvent code m a).fio = s.fio := State.fio_of_noticed (s.noticed_accessEvent code m a)
@[simp] theorem State.accessEvent_stg (s : State) (code : Byte) (m : BitVec 3) (a : Word) : (s.accessEvent code m a).stg = s.stg := State.stg_of_noticed (s.noticed_accessEvent code m a)
@[simp] theorem State.accessEvent_mbx (s : State) (code : Byte) (m : BitVec 3) (a : Word) : (s.accessEvent code m a).mbx = s.mbx := State.mbx_of_noticed (s.noticed_accessEvent code m a)
@[simp] theorem State.accessEvent_locks (s : State) (code : Byte) (m : BitVec 3) (a : Word) : (s.accessEvent code m a).locks = s.locks := State.locks_of_noticed (s.noticed_accessEvent code m a)
@[simp] theorem State.accessEvent_wrap (s : State) (code : Byte) (m : BitVec 3) (a : Word) : (s.accessEvent code m a).wrap = s.wrap := State.wrap_of_noticed (s.noticed_accessEvent code m a)
@[simp] theorem State.accessEvent_pwr (s : State) (code : Byte) (m : BitVec 3) (a : Word) : (s.accessEvent code m a).pwr = s.pwr := State.pwr_of_noticed (s.noticed_accessEvent code m a)
@[simp] theorem State.accessEvent_port (s : State) (code : Byte) (m : BitVec 3) (a : Word) : (s.accessEvent code m a).port = s.port := State.port_of_noticed (s.noticed_accessEvent code m a)
@[simp] theorem State.accessEvent_mirror (s : State) (code : Byte) (m : BitVec 3) (a : Word) : (s.accessEvent code m a).mirror = s.mirror := State.mirror_of_noticed (s.noticed_accessEvent code m a)
@[simp] theorem State.accessEvent_bus (s : State) (code : Byte) (m : BitVec 3) (a : Word) : (s.accessEvent code m a).bus = s.bus := State.bus_of_noticed (s.noticed_accessEvent code m a)
@[simp] theorem State.accessEvent_out (s : State) (code : Byte) (m : BitVec 3) (a : Word) : (s.accessEvent code m a).out = s.out := State.out_of_noticed (s.noticed_accessEvent code m a)
@[simp] theorem State.accessEvent_free (s : State) (code : Byte) (m : BitVec 3) (a : Word) : (s.accessEvent code m a).free = s.free := State.free_of_noticed (s.noticed_accessEvent code m a)
@[simp] theorem State.accessEvent_laneA (s : State) (code : Byte) (m : BitVec 3) (a : Word) : (s.accessEvent code m a).laneA = s.laneA := State.laneA_of_noticed (s.noticed_accessEvent code m a)
@[simp] theorem State.accessEvent_laneB (s : State) (code : Byte) (m : BitVec 3) (a : Word) : (s.accessEvent code m a).laneB = s.laneB := State.laneB_of_noticed (s.noticed_accessEvent code m a)
@[simp] theorem State.accessEvent_laneC (s : State) (code : Byte) (m : BitVec 3) (a : Word) : (s.accessEvent code m a).laneC = s.laneC := State.laneC_of_noticed (s.noticed_accessEvent code m a)
@[simp] theorem State.accessEvent_lane (s : State) (code : Byte) (m : BitVec 3) (a : Word) (l : LaneId) : (s.accessEvent code m a).lane l = s.lane l := State.lane_of_noticed (s.noticed_accessEvent code m a) l

@[simp] theorem State.switched_pending (s old : State) : (State.switched s old).pending = s.pending := State.pending_of_noticed (State.noticed_switched s old)
@[simp] theorem State.switched_now (s old : State) : (State.switched s old).now = s.now := State.now_of_noticed (State.noticed_switched s old)
@[simp] theorem State.switched_take (s old : State) : (State.switched s old).take = s.take := State.take_of_noticed (State.noticed_switched s old)
@[simp] theorem State.switched_sys (s old : State) : (State.switched s old).sys = s.sys := State.sys_of_noticed (State.noticed_switched s old)
@[simp] theorem State.switched_vote (s old : State) : (State.switched s old).vote = s.vote := State.vote_of_noticed (State.noticed_switched s old)
@[simp] theorem State.switched_net (s old : State) : (State.switched s old).net = s.net := State.net_of_noticed (State.noticed_switched s old)
@[simp] theorem State.switched_ses (s old : State) : (State.switched s old).ses = s.ses := State.ses_of_noticed (State.noticed_switched s old)
@[simp] theorem State.switched_pair (s old : State) : (State.switched s old).pair = s.pair := State.pair_of_noticed (State.noticed_switched s old)
@[simp] theorem State.switched_wit (s old : State) : (State.switched s old).wit = s.wit := State.wit_of_noticed (State.noticed_switched s old)
@[simp] theorem State.switched_fio (s old : State) : (State.switched s old).fio = s.fio := State.fio_of_noticed (State.noticed_switched s old)
@[simp] theorem State.switched_stg (s old : State) : (State.switched s old).stg = s.stg := State.stg_of_noticed (State.noticed_switched s old)
@[simp] theorem State.switched_mbx (s old : State) : (State.switched s old).mbx = s.mbx := State.mbx_of_noticed (State.noticed_switched s old)
@[simp] theorem State.switched_locks (s old : State) : (State.switched s old).locks = s.locks := State.locks_of_noticed (State.noticed_switched s old)
@[simp] theorem State.switched_wrap (s old : State) : (State.switched s old).wrap = s.wrap := State.wrap_of_noticed (State.noticed_switched s old)
@[simp] theorem State.switched_pwr (s old : State) : (State.switched s old).pwr = s.pwr := State.pwr_of_noticed (State.noticed_switched s old)
@[simp] theorem State.switched_port (s old : State) : (State.switched s old).port = s.port := State.port_of_noticed (State.noticed_switched s old)
@[simp] theorem State.switched_mirror (s old : State) : (State.switched s old).mirror = s.mirror := State.mirror_of_noticed (State.noticed_switched s old)
@[simp] theorem State.switched_bus (s old : State) : (State.switched s old).bus = s.bus := State.bus_of_noticed (State.noticed_switched s old)
@[simp] theorem State.switched_out (s old : State) : (State.switched s old).out = s.out := State.out_of_noticed (State.noticed_switched s old)
@[simp] theorem State.switched_free (s old : State) : (State.switched s old).free = s.free := State.free_of_noticed (State.noticed_switched s old)
@[simp] theorem State.switched_laneA (s old : State) : (State.switched s old).laneA = s.laneA := State.laneA_of_noticed (State.noticed_switched s old)
@[simp] theorem State.switched_laneB (s old : State) : (State.switched s old).laneB = s.laneB := State.laneB_of_noticed (State.noticed_switched s old)
@[simp] theorem State.switched_laneC (s old : State) : (State.switched s old).laneC = s.laneC := State.laneC_of_noticed (State.noticed_switched s old)
@[simp] theorem State.switched_lane (s old : State) (l : LaneId) : (State.switched s old).lane l = s.lane l := State.lane_of_noticed (State.noticed_switched s old) l

end Sys2Proof.Machine
end

