-- ==== Sys2Proof/Laws/Access.lean ====
section
/-! SUPPORT. A register access, said once: where the bus answers it, the state is the effect on a state that only counters, their flags
and BUS distinguish from the one before; where it does not, nothing but those changes. -/

namespace Sys2Proof.Machine

open Sys2Proof

theorem State.coordUp_supplied {s : State} (h : s.coordUp = true) : s.supplied = true ∧ s.mbx.restarting = false := by
  simpa [State.coordUp] using h

/-- An access that a running coordinator's bus answers. -/
theorem State.access_ok (s : State) (m : BitVec 3) (a : Word) (f : State → State) (h : s.coordUp = true) (hm : m ≠ 7) :
    s.access m a true f = f { s.accessEvent 0xA1 m a with bus := .ok } := by
  obtain ⟨h1, h2⟩ := State.coordUp_supplied h
  unfold State.access
  have hm : ¬ m = 7#3 := hm
  rw [if_neg (by simp [h1, h2, hm])]
  dsimp only
  rw [if_pos (by simp [h2])]

/-- An access that the bus refuses. -/
theorem State.access_error (s : State) (m : BitVec 3) (a : Word) (f : State → State) (h : s.supplied = true)
    (h0 : m ≠ 0 ∨ s.mbx.restarting = false) (hm : m ≠ 7) :
    State.noticed { s with bus := .error } (s.access m a false f) := by
  unfold State.access
  have hm : ¬ m = 7#3 := hm
  rw [if_neg (by rcases h0 with h0 | h0
                 · have h0 : ¬ m = 0#3 := h0
                   simp [h, h0, hm]
                 · simp [h, h0, hm])]
  dsimp only
  rw [if_neg (by simp)]
  obtain ⟨f1, e1, p1, r1, h1⟩ := s.noticed_accessEvent 0xA1 m a
  have h2 : State.noticed { s with bus := .error } { s.accessEvent 0xA1 m a with bus := .error } := by
    rw [h1]; exact ⟨f1, e1, p1, r1, rfl⟩
  exact State.noticed_trans h2 (State.noticed_accessEvent _ _ _ _)

/-- With the counters stopped an access counts nothing. -/
theorem State.accessEvent_stopped (s : State) (code : Byte) (m : BitVec 3) (a : Word) (h : s.pmc.stopped = true) :
    s.accessEvent code m a = s := by
  simp [State.accessEvent, State.countN, State.pmcBump, h]

/-- A state read with another answer on the bus is noticed as the other is. -/
theorem State.noticed_bus {s t : State} (b : Bus) (h : s.noticed t) : State.noticed { s with bus := b } { t with bus := b } := by
  obtain ⟨f, e, p, r, rfl⟩ := h
  exact ⟨f, e, p, r, rfl⟩

end Sys2Proof.Machine
end

