-- ==== Sys2Proof/Laws/Cores.lean ====
section
/-! SUPPORT. The lockstep pair of a lane, and rows of the rushes that come outside P0. -/

namespace Sys2Proof.Machine

open Sys2Proof

/-- Two cores at rest, or reset, have no gap (R245). -/
@[simp] theorem LaneStat.rest_gap (t : LaneStat) : t.rest.gap = 0 := rfl
@[simp] theorem LaneStat.halt_gap (t : LaneStat) : t.halt.gap = 0 := rfl

/-- Continuity begins two steps behind the main core (R245). -/
theorem LaneStat.resume_gap (t : LaneStat) (n : Nat) (h : t.steps = []) : (t.resume n).gap = 2 := by
  simp [LaneStat.resume, LaneStat.pairStep, LaneStat.mainStep, LaneStat.contStep, LaneStat.gap, h]

/-- A step of a running pair keeps the gap of two (R244). -/
theorem LaneStat.pairStep_two (t : LaneStat) (x : TokenStep) (h : t.steps.length = 2) : (t.pairStep x).steps.length = 2 := by
  simp [LaneStat.pairStep, LaneStat.mainStep, LaneStat.contStep, h]

/-- A row of the rushes outside P0 waits for the next one (R30), and nothing else changes. -/
theorem State.rushRow_held (s : State) (i : Instr) (h : s.rushing = false) :
    s.rushRow i = { s with take := { s.take with held := s.take.held ++ [i] } } := by
  simp [State.rushRow, h]

/-- A row of the rushes in P0 acts in every lane that is in it. -/
theorem State.rushRow_applies (s : State) (i : Instr) (h : s.rushing = true) :
    s.rushRow i = s.withLanes Lane.inP0 fun l => l.rushCommand s.cmdCtx i := by
  simp [State.rushRow, h]

end Sys2Proof.Machine
end

