-- ==== Sys2Proof/Laws/Memory.lean ====
section
/-! SUPPORT. The byte memory of a lane: every store keeps the canonical form, a byte read after a store is the byte stored, and every
other byte reads as before. -/

namespace Sys2Proof.Machine

open Sys2Proof

theorem memWf_nil : memWf [] = true := rfl

theorem memWf_cons (c : Host.Cell) (m : Memory) :
    memWf (c :: m) = true ↔ c.2 ≠ memDefault ∧ (∀ d ∈ m, c.1 < d.1) ∧ memWf m = true := by
  simp [memWf, and_assoc]

theorem memWf_filter (p : Host.Cell → Bool) (m : Memory) (h : memWf m = true) : memWf (m.filter p) = true := by
  induction m with
  | nil => rfl
  | cons c m ih =>
    obtain ⟨h1, h2, h3⟩ := (memWf_cons c m).mp h
    rw [List.filter_cons]
    split
    · exact (memWf_cons c _).mpr ⟨h1, fun d hd => h2 d (List.mem_filter.mp hd).1, ih h3⟩
    · exact ih h3

theorem memWf_append (m n : Memory) (hm : memWf m = true) (hn : memWf n = true) (h : ∀ c ∈ m, ∀ d ∈ n, c.1 < d.1) :
    memWf (m ++ n) = true := by
  induction m with
  | nil => exact hn
  | cons c m ih =>
    obtain ⟨h1, h2, h3⟩ := (memWf_cons c m).mp hm
    refine (memWf_cons c _).mpr ⟨h1, fun d hd => ?_, ih h3 fun x hx => h x (List.mem_cons_of_mem _ hx)⟩
    rcases List.mem_append.mp hd with hd | hd
    · exact h2 d hd
    · exact h c List.mem_cons_self d hd

theorem memCells_bounds (a : Nat) (l : Bytes) : ∀ c ∈ memCells a l, a ≤ c.1 ∧ c.1 < a + l.length := by
  induction l generalizing a with
  | nil => intro c h; cases h
  | cons b l ih =>
    intro c h
    have ih := ih (a + 1) c
    simp only [memCells] at h
    split at h
    · have := ih h; simp; omega
    · rcases List.mem_cons.mp h with rfl | h
      · simp
      · have := ih h; simp; omega

theorem memWf_memCells (a : Nat) (l : Bytes) : memWf (memCells a l) = true := by
  induction l generalizing a with
  | nil => rfl
  | cons b l ih =>
    simp only [memCells]
    split
    · exact ih _
    · exact (memWf_cons _ _).mpr ⟨‹_›, fun d hd => by have := memCells_bounds _ _ d hd; simp; omega, ih _⟩

/-- Every store keeps the canonical form. -/
theorem memWf_memStore (m : Memory) (a : Nat) (l : Bytes) (h : memWf m = true) : memWf (memStore m a l) = true := by
  unfold memStore
  refine memWf_append _ _ (memWf_append _ _ (memWf_filter _ _ h) (memWf_memCells a l) ?_) (memWf_filter _ _ h) ?_
  · intro c hc d hd
    have h1 := (List.mem_filter.mp hc).2
    have h2 := memCells_bounds a l d hd
    simp at h1; omega
  · intro c hc d hd
    have h2 := (List.mem_filter.mp hd).2
    simp at h2
    rcases List.mem_append.mp hc with hc | hc
    · have h1 := (List.mem_filter.mp hc).2
      simp at h1; omega
    · have h1 := memCells_bounds a l c hc
      omega

/-! ### Reading after a store -/

theorem memRead_nil (a : Nat) : memRead [] a = memDefault := rfl

theorem memRead_cons (c : Host.Cell) (m : Memory) (a : Nat) : memRead (c :: m) a = if c.1 = a then c.2 else memRead m a := by
  unfold memRead
  by_cases h : c.1 = a <;> simp [h]

theorem memRead_append (m n : Memory) (a : Nat) (h : ∀ c ∈ m, c.1 ≠ a) : memRead (m ++ n) a = memRead n a := by
  induction m with
  | nil => rfl
  | cons c m ih =>
    rw [List.cons_append, memRead_cons, if_neg (h c List.mem_cons_self)]
    exact ih fun x hx => h x (List.mem_cons_of_mem _ hx)

theorem memRead_append_left (m n : Memory) (a : Nat) (h : ∀ c ∈ n, c.1 ≠ a) : memRead (m ++ n) a = memRead m a := by
  induction m with
  | nil => simpa [memRead_nil] using memRead_append n [] a h
  | cons c m ih => rw [List.cons_append, memRead_cons, memRead_cons, ih]

theorem memRead_filter (p : Host.Cell → Bool) (m : Memory) (a : Nat) (h : ∀ c : Host.Cell, c.1 = a → p c = true) :
    memRead (m.filter p) a = memRead m a := by
  induction m with
  | nil => rfl
  | cons c m ih =>
    rw [List.filter_cons, memRead_cons]
    split
    · rw [memRead_cons, ih]
    · rename_i hp
      rw [if_neg fun hc => hp (h c hc), ih]

theorem memRead_memCells (a : Nat) (l : Bytes) (i : Nat) (h : i < l.length) : memRead (memCells a l) (a + i) = l.getD i 0 := by
  induction l generalizing a i with
  | nil => simp at h
  | cons b l ih =>
    simp only [memCells]
    have key : ∀ k, i = k + 1 → memRead (memCells (a + 1) l) (a + i) = (b :: l).getD i 0 := by
      rintro k rfl
      have := ih (a + 1) k (by simp at h; omega)
      rw [show a + (k + 1) = a + 1 + k by omega, this]
      simp
    have zero : i = 0 → memRead (memCells (a + 1) l) (a + i) = memDefault := by
      rintro rfl
      have := memRead_append (memCells (a + 1) l) [] (a + 0) fun c hc => by have := memCells_bounds _ _ c hc; omega
      simpa [memRead_nil] using this
    split
    · rename_i hb
      rcases i with _ | k
      · rw [zero rfl]; simp [hb]
      · exact key k rfl
    · rw [memRead_cons]
      rcases i with _ | k
      · simp
      · rw [if_neg (by simp)]; exact key k rfl

/-- A byte read where one was stored is the byte stored. -/
theorem memRead_memStore (m : Memory) (a : Nat) (l : Bytes) (i : Nat) (h : i < l.length) :
    memRead (memStore m a l) (a + i) = l.getD i 0 := by
  unfold memStore
  rw [memRead_append_left, memRead_append, memRead_memCells a l i h]
  · intro c hc; have := (List.mem_filter.mp hc).2; simp at this; omega
  · intro c hc; have := (List.mem_filter.mp hc).2; simp at this; omega

/-- Every other byte reads as before. -/
theorem memRead_memStore_of_ne (m : Memory) (a : Nat) (l : Bytes) (x : Nat) (h : x < a ∨ a + l.length ≤ x) :
    memRead (memStore m a l) x = memRead m x := by
  unfold memStore
  rcases h with h | h
  · rw [memRead_append_left, memRead_append_left, memRead_filter]
    · rintro c rfl; simpa using h
    · intro c hc; have := memCells_bounds _ _ c hc; omega
    · intro c hc; have := (List.mem_filter.mp hc).2; simp at this; omega
  · rw [List.append_assoc, memRead_append, memRead_append, memRead_filter]
    · rintro c rfl; simpa using h
    · intro c hc; have := memCells_bounds _ _ c hc; omega
    · intro c hc; have := (List.mem_filter.mp hc).2; simp at this; omega

end Sys2Proof.Machine
end

