-- ==== Sys2Proof/Laws/PerInstr.lean ====
section
/-! SUPPORT. What holds of every command as syntax, one lemma per constructor. The family NoWord: the opcode table of the spec gives no
row bits, so no word spells the command. -/

namespace Sys2Proof.Laws.NoWord

/-- No word of the table spells the command. -/
def Statement (i : Sys2Proof.Instr) : Prop := ∀ nbits w : Nat, Sys2Proof.decodeTableWord nbits w ≠ some i

theorem takeStart : ∀ x0 x1, Statement (.takeStart x0 x1) := fun _ _ _ _ h => nomatch h
theorem rushes : Statement .rushes := fun _ _ h => nomatch h
theorem waveStep : ∀ x0 x1, Statement (.waveStep x0 x1) := fun _ _ _ _ h => nomatch h
theorem trackClearDelayExpiry : ∀ x0, Statement (.trackClearDelayExpiry x0) := fun _ _ _ h => nomatch h
theorem berthDelayExpiry : ∀ x0, Statement (.berthDelayExpiry x0) := fun _ _ _ h => nomatch h
theorem pointMoveTimeout : ∀ x0, Statement (.pointMoveTimeout x0) := fun _ _ _ h => nomatch h
theorem proveGraceExpiry : ∀ x0, Statement (.proveGraceExpiry x0) := fun _ _ _ h => nomatch h
theorem closeSupervisionExpiry : ∀ x0, Statement (.closeSupervisionExpiry x0) := fun _ _ _ h => nomatch h
theorem permissionDelayExpiry : ∀ x0, Statement (.permissionDelayExpiry x0) := fun _ _ _ h => nomatch h
theorem approachLockingExpiry : ∀ x0, Statement (.approachLockingExpiry x0) := fun _ _ _ h => nomatch h
theorem erlExpiry : ∀ x0, Statement (.erlExpiry x0) := fun _ _ _ h => nomatch h
theorem erlWindowLapse : ∀ x0, Statement (.erlWindowLapse x0) := fun _ _ _ h => nomatch h
theorem exchangePoint : Statement .exchangePoint := fun _ _ h => nomatch h
theorem latchPoint : Statement .latchPoint := fun _ _ h => nomatch h
theorem deadline : Statement .deadline := fun _ _ h => nomatch h
theorem boundaryPoint : ∀ x0, Statement (.boundaryPoint x0) := fun _ _ _ h => nomatch h
theorem scrubStep : ∀ x0 x1, Statement (.scrubStep x0 x1) := fun _ _ _ _ h => nomatch h
theorem routeRequest : ∀ x0, Statement (.routeRequest x0) := fun _ _ _ h => nomatch h
theorem cancel : ∀ x0, Statement (.cancel x0) := fun _ _ _ h => nomatch h
theorem pointCallNormal : ∀ x0, Statement (.pointCallNormal x0) := fun _ _ _ h => nomatch h
theorem pointCallReverse : ∀ x0, Statement (.pointCallReverse x0) := fun _ _ _ h => nomatch h
theorem doorRelease : ∀ x0, Statement (.doorRelease x0) := fun _ _ _ h => nomatch h
theorem doorClose : ∀ x0, Statement (.doorClose x0) := fun _ _ _ h => nomatch h
theorem plungerReset : ∀ x0, Statement (.plungerReset x0) := fun _ _ _ h => nomatch h
theorem erlArm : ∀ x0, Statement (.erlArm x0) := fun _ _ _ h => nomatch h
theorem erlExec : ∀ x0, Statement (.erlExec x0) := fun _ _ _ h => nomatch h
theorem regionEn : ∀ x0, Statement (.regionEn x0) := fun _ _ _ h => nomatch h
theorem regionDis : ∀ x0, Statement (.regionDis x0) := fun _ _ _ h => nomatch h
theorem sessionEn : ∀ x0, Statement (.sessionEn x0) := fun _ _ _ h => nomatch h
theorem sessionDis : ∀ x0, Statement (.sessionDis x0) := fun _ _ _ h => nomatch h
theorem groupEn : ∀ x0, Statement (.groupEn x0) := fun _ _ _ h => nomatch h
theorem groupDis : ∀ x0, Statement (.groupDis x0) := fun _ _ _ h => nomatch h
theorem checkSlice : Statement .checkSlice := fun _ _ h => nomatch h
theorem spliceBar : ∀ x0, Statement (.spliceBar x0) := fun _ _ _ h => nomatch h
theorem spliceLoad : Statement .spliceLoad := fun _ _ h => nomatch h
theorem shadowLoad : ∀ x0, Statement (.shadowLoad x0) := fun _ _ _ h => nomatch h
theorem spliceSchedule : ∀ x0, Statement (.spliceSchedule x0) := fun _ _ _ h => nomatch h
theorem spliceAbort : Statement .spliceAbort := fun _ _ h => nomatch h
theorem spliceCommit : Statement .spliceCommit := fun _ _ h => nomatch h
theorem spliceSettled : Statement .spliceSettled := fun _ _ h => nomatch h
theorem modeVital : Statement .modeVital := fun _ _ h => nomatch h
theorem modeCommission : Statement .modeCommission := fun _ _ h => nomatch h
theorem forceSet : ∀ x0, Statement (.forceSet x0) := fun _ _ _ h => nomatch h
theorem blockSet : ∀ x0, Statement (.blockSet x0) := fun _ _ _ h => nomatch h
theorem forceClear : ∀ x0, Statement (.forceClear x0) := fun _ _ _ h => nomatch h
theorem laneReset : ∀ x0, Statement (.laneReset x0) := fun _ _ _ h => nomatch h
theorem laneWrap : ∀ x0, Statement (.laneWrap x0) := fun _ _ _ h => nomatch h
theorem restart : Statement .restart := fun _ _ h => nomatch h
theorem areaNotice : ∀ x0, Statement (.areaNotice x0) := fun _ _ _ h => nomatch h
theorem lockstepBreak : ∀ x0, Statement (.lockstepBreak x0) := fun _ _ _ h => nomatch h
theorem debugRequest : ∀ x0, Statement (.debugRequest x0) := fun _ _ _ h => nomatch h
theorem laneRecoveryReady : ∀ x0, Statement (.laneRecoveryReady x0) := fun _ _ _ h => nomatch h
theorem frameReceive : ∀ x0 x1 x2 x3 x4, Statement (.frameReceive x0 x1 x2 x3 x4) := fun _ _ _ _ _ _ _ h => nomatch h
theorem frameSend : ∀ x0, Statement (.frameSend x0) := fun _ _ _ h => nomatch h
theorem payloadDeadline : ∀ x0 x1, Statement (.payloadDeadline x0 x1) := fun _ _ _ _ h => nomatch h
theorem timingSet : ∀ x0 x1 x2 x3 x4 x5 x6, Statement (.timingSet x0 x1 x2 x3 x4 x5 x6) := fun _ _ _ _ _ _ _ _ _ h => nomatch h
theorem hopLost : ∀ x0 x1, Statement (.hopLost x0 x1) := fun _ _ _ _ h => nomatch h
theorem fallSilent : Statement .fallSilent := fun _ _ h => nomatch h
theorem terminationEnd : Statement .terminationEnd := fun _ _ h => nomatch h
theorem coldListenEnd : Statement .coldListenEnd := fun _ _ h => nomatch h
theorem backoffEnd : Statement .backoffEnd := fun _ _ h => nomatch h
theorem starter : Statement .starter := fun _ _ h => nomatch h
theorem sesRx : Statement .sesRx := fun _ _ h => nomatch h
theorem checkStart : ∀ x0 x1, Statement (.checkStart x0 x1) := fun _ _ _ _ h => nomatch h
theorem checkFeed : ∀ x0 x1 x2 x3, Statement (.checkFeed x0 x1 x2 x3) := fun _ _ _ _ _ _ h => nomatch h
theorem checkResult : ∀ x0 x1, Statement (.checkResult x0 x1) := fun _ _ _ _ h => nomatch h
theorem heartbeat : ∀ x0 x1 x2 x3, Statement (.heartbeat x0 x1 x2 x3) := fun _ _ _ _ _ _ h => nomatch h
theorem pairLinkDown : Statement .pairLinkDown := fun _ _ h => nomatch h
theorem pairLinkUp : Statement .pairLinkUp := fun _ _ h => nomatch h
theorem digest : ∀ x0 x1 x2 x3 x4 x5, Statement (.digest x0 x1 x2 x3 x4 x5) := fun _ _ _ _ _ _ _ _ h => nomatch h
theorem agree : ∀ x0 x1 x2, Statement (.agree x0 x1 x2) := fun _ _ _ _ _ h => nomatch h
theorem health : ∀ x0 x1, Statement (.health x0 x1) := fun _ _ _ _ h => nomatch h
theorem tlen : ∀ x0 x1, Statement (.tlen x0 x1) := fun _ _ _ _ h => nomatch h
theorem demote : ∀ x0 x1, Statement (.demote x0 x1) := fun _ _ _ _ h => nomatch h
theorem resign : ∀ x0 x1, Statement (.resign x0 x1) := fun _ _ _ _ h => nomatch h
theorem leadResignTimeout : Statement .leadResignTimeout := fun _ _ h => nomatch h
theorem equal : ∀ x0 x1 x2, Statement (.equal x0 x1 x2) := fun _ _ _ _ _ h => nomatch h
theorem partnerLost : Statement .partnerLost := fun _ _ h => nomatch h
theorem witnessBroadcast : ∀ x0, Statement (.witnessBroadcast x0) := fun _ _ _ h => nomatch h
theorem witnessDecide : ∀ x0, Statement (.witnessDecide x0) := fun _ _ _ h => nomatch h
theorem witnessLost : Statement .witnessLost := fun _ _ h => nomatch h
theorem selfTest : ∀ x0 x1, Statement (.selfTest x0 x1) := fun _ _ _ _ h => nomatch h
theorem wrapStartDecision : Statement .wrapStartDecision := fun _ _ h => nomatch h
theorem standinTimeout : Statement .standinTimeout := fun _ _ h => nomatch h
theorem cueEdge : Statement .cueEdge := fun _ _ h => nomatch h
theorem fieldSnapshot : ∀ x0, Statement (.fieldSnapshot x0) := fun _ _ _ h => nomatch h
theorem fieldReadback : ∀ x0 x1, Statement (.fieldReadback x0 x1) := fun _ _ _ _ h => nomatch h
theorem overcurrent : ∀ x0, Statement (.overcurrent x0) := fun _ _ _ h => nomatch h
theorem shortLoad : ∀ x0, Statement (.shortLoad x0) := fun _ _ _ h => nomatch h
theorem groupOverload : ∀ x0, Statement (.groupOverload x0) := fun _ _ _ h => nomatch h
theorem detectorProof : ∀ x0 x1, Statement (.detectorProof x0 x1) := fun _ _ _ _ h => nomatch h
theorem offChannelProbe : ∀ x0 x1, Statement (.offChannelProbe x0 x1) := fun _ _ _ _ h => nomatch h
theorem groupSag : ∀ x0, Statement (.groupSag x0) := fun _ _ _ h => nomatch h
theorem sagRecover : ∀ x0, Statement (.sagRecover x0) := fun _ _ _ h => nomatch h
theorem filteredInputChange : ∀ x0 x1 x2, Statement (.filteredInputChange x0 x1 x2) := fun _ _ _ _ _ h => nomatch h
theorem periodMeasure : ∀ x0 x1, Statement (.periodMeasure x0 x1) := fun _ _ _ _ h => nomatch h
theorem periodTimeout : ∀ x0, Statement (.periodTimeout x0) := fun _ _ _ h => nomatch h
theorem cntSnap : Statement .cntSnap := fun _ _ h => nomatch h
theorem cntPreset : ∀ x0 x1, Statement (.cntPreset x0 x1) := fun _ _ _ _ h => nomatch h
theorem refreshToken : ∀ x0 x1 x2, Statement (.refreshToken x0 x1 x2) := fun _ _ _ _ _ h => nomatch h
theorem refreshSilence : ∀ x0, Statement (.refreshSilence x0) := fun _ _ _ h => nomatch h
theorem refreshResume : Statement .refreshResume := fun _ _ h => nomatch h
theorem powerOn : Statement .powerOn := fun _ _ h => nomatch h
theorem reloadDone : Statement .reloadDone := fun _ _ h => nomatch h
theorem verifyComplete : Statement .verifyComplete := fun _ _ h => nomatch h
theorem cutRestart : Statement .cutRestart := fun _ _ h => nomatch h
theorem restartSettleEnd : Statement .restartSettleEnd := fun _ _ h => nomatch h
theorem rateTokenRefill : ∀ x0, Statement (.rateTokenRefill x0) := fun _ _ _ h => nomatch h
theorem dailies : ∀ x0, Statement (.dailies x0) := fun _ _ _ h => nomatch h
theorem reelClear : ∀ x0 x1, Statement (.reelClear x0 x1) := fun _ _ _ _ h => nomatch h
theorem reelRead : ∀ x0 x1, Statement (.reelRead x0 x1) := fun _ _ _ _ h => nomatch h
theorem rateCfgWrite : ∀ x0, Statement (.rateCfgWrite x0) := fun _ _ _ h => nomatch h
theorem stageOpen : ∀ x0 x1, Statement (.stageOpen x0 x1) := fun _ _ _ _ h => nomatch h
theorem stageBlock : ∀ x0 x1 x2, Statement (.stageBlock x0 x1 x2) := fun _ _ _ _ _ h => nomatch h
theorem stageClose : ∀ x0, Statement (.stageClose x0) := fun _ _ _ h => nomatch h
theorem stageDiscard : ∀ x0 x1, Statement (.stageDiscard x0 x1) := fun _ _ _ _ h => nomatch h
theorem stagingLapse : Statement .stagingLapse := fun _ _ h => nomatch h
theorem copyBlock : ∀ x0, Statement (.copyBlock x0) := fun _ _ _ h => nomatch h
theorem actSchedule : ∀ x0 x1, Statement (.actSchedule x0 x1) := fun _ _ _ _ h => nomatch h
theorem actCancel : Statement .actCancel := fun _ _ h => nomatch h
theorem actLocal : Statement .actLocal := fun _ _ h => nomatch h
theorem actReq : ∀ x0 x1 x2 x3, Statement (.actReq x0 x1 x2 x3) := fun _ _ _ _ _ _ h => nomatch h
theorem prepare : ∀ x0 x1 x2 x3, Statement (.prepare x0 x1 x2 x3) := fun _ _ _ _ _ _ h => nomatch h
theorem actReady : ∀ x0 x1, Statement (.actReady x0 x1) := fun _ _ _ _ h => nomatch h
theorem actRefuse : ∀ x0 x1 x2, Statement (.actRefuse x0 x1 x2) := fun _ _ _ _ _ h => nomatch h
theorem actCommit : ∀ x0, Statement (.actCommit x0) := fun _ _ _ h => nomatch h
theorem actAbort : ∀ x0 x1, Statement (.actAbort x0 x1) := fun _ _ _ _ h => nomatch h
theorem actDeadline : Statement .actDeadline := fun _ _ h => nomatch h
theorem noDecisionAbort : Statement .noDecisionAbort := fun _ _ h => nomatch h
theorem serviceCommit : Statement .serviceCommit := fun _ _ h => nomatch h
theorem actRoundReached : Statement .actRoundReached := fun _ _ h => nomatch h
theorem rollResign : Statement .rollResign := fun _ _ h => nomatch h
theorem rollWitnessRestart : Statement .rollWitnessRestart := fun _ _ h => nomatch h
theorem rollHalted : Statement .rollHalted := fun _ _ h => nomatch h
theorem mailboxGo : ∀ x0 x1 x2, Statement (.mailboxGo x0 x1 x2) := fun _ _ _ _ _ h => nomatch h
theorem wakePowerOff : ∀ x0, Statement (.wakePowerOff x0) := fun _ _ _ h => nomatch h
theorem mailboxCompare : Statement .mailboxCompare := fun _ _ h => nomatch h
theorem laneMessage : ∀ x0 x1 x2, Statement (.laneMessage x0 x1 x2) := fun _ _ _ _ _ h => nomatch h
theorem laneMailboxRead : ∀ x0 x1, Statement (.laneMailboxRead x0 x1) := fun _ _ _ _ h => nomatch h
theorem coordWatchdog : Statement .coordWatchdog := fun _ _ h => nomatch h
theorem coordRestartDone : Statement .coordRestartDone := fun _ _ h => nomatch h
theorem evtSwset : ∀ x0, Statement (.evtSwset x0) := fun _ _ _ h => nomatch h
theorem semLockRead : ∀ x0 x1, Statement (.semLockRead x0 x1) := fun _ _ _ _ h => nomatch h
theorem semLockWrite : ∀ x0 x1 x2, Statement (.semLockWrite x0 x1 x2) := fun _ _ _ _ _ h => nomatch h
theorem semForce : ∀ x0 x1, Statement (.semForce x0 x1) := fun _ _ _ _ h => nomatch h
theorem wrapSliceEnd : ∀ x0 x1 x2, Statement (.wrapSliceEnd x0 x1 x2) := fun _ _ _ _ _ h => nomatch h
theorem pmcCfgWrite : ∀ x0, Statement (.pmcCfgWrite x0) := fun _ _ _ h => nomatch h
theorem pmcFreeze : ∀ x0, Statement (.pmcFreeze x0) := fun _ _ _ h => nomatch h
theorem pmcRelease : ∀ x0, Statement (.pmcRelease x0) := fun _ _ _ h => nomatch h
theorem pmcFrozen : Statement .pmcFrozen := fun _ _ h => nomatch h
theorem pmcClear : Statement .pmcClear := fun _ _ h => nomatch h
theorem pmcPreset : ∀ x0, Statement (.pmcPreset x0) := fun _ _ _ h => nomatch h
theorem pmcValRead : Statement .pmcValRead := fun _ _ h => nomatch h
theorem pmcFrzRead : Statement .pmcFrzRead := fun _ _ h => nomatch h
theorem takeStartRead : Statement .takeStartRead := fun _ _ h => nomatch h
theorem marginLowClr : ∀ x0, Statement (.marginLowClr x0) := fun _ _ _ h => nomatch h
theorem wrapWinWrite : ∀ x0, Statement (.wrapWinWrite x0) := fun _ _ _ h => nomatch h
theorem registerWrite : ∀ x0 x1 x2 x3, Statement (.registerWrite x0 x1 x2 x3) := fun _ _ _ _ _ _ h => nomatch h
theorem feedLost : ∀ x0, Statement (.feedLost x0) := fun _ _ _ h => nomatch h
theorem feedRestored : ∀ x0, Statement (.feedRestored x0) := fun _ _ _ h => nomatch h
theorem powerFail : Statement .powerFail := fun _ _ h => nomatch h
theorem supplyDip : Statement .supplyDip := fun _ _ h => nomatch h
theorem holdupMeasure : ∀ x0 x1, Statement (.holdupMeasure x0 x1) := fun _ _ _ _ h => nomatch h
theorem railOut : ∀ x0 x1, Statement (.railOut x0 x1) := fun _ _ _ _ h => nomatch h
theorem railRecover : ∀ x0, Statement (.railRecover x0) := fun _ _ _ h => nomatch h
theorem thermalShutdown : ∀ x0, Statement (.thermalShutdown x0) := fun _ _ _ h => nomatch h
theorem thermalRestart : ∀ x0, Statement (.thermalRestart x0) := fun _ _ _ h => nomatch h
theorem tempHigh : ∀ x0 x1, Statement (.tempHigh x0 x1) := fun _ _ _ _ h => nomatch h
theorem lineMismatch : ∀ x0, Statement (.lineMismatch x0) := fun _ _ _ h => nomatch h
theorem intrusion : Statement .intrusion := fun _ _ h => nomatch h
theorem enrolSwitch : Statement .enrolSwitch := fun _ _ h => nomatch h
theorem enrolClose : Statement .enrolClose := fun _ _ h => nomatch h
theorem enrolKeygen : Statement .enrolKeygen := fun _ _ h => nomatch h
theorem enrolCert : ∀ x0, Statement (.enrolCert x0) := fun _ _ _ h => nomatch h
theorem enrolKeyslot : ∀ x0 x1 x2, Statement (.enrolKeyslot x0 x1 x2) := fun _ _ _ _ _ h => nomatch h
theorem tlsOpen : ∀ x0 x1, Statement (.tlsOpen x0 x1) := fun _ _ _ _ h => nomatch h
theorem sessionIdleClose : ∀ x0, Statement (.sessionIdleClose x0) := fun _ _ _ h => nomatch h
theorem batch : ∀ x0 x1 x2, Statement (.batch x0 x1 x2) := fun _ _ _ _ _ h => nomatch h
theorem propose : ∀ x0 x1 x2, Statement (.propose x0 x1 x2) := fun _ _ _ _ _ h => nomatch h
theorem confirm : ∀ x0 x1 x2, Statement (.confirm x0 x1 x2) := fun _ _ _ _ _ h => nomatch h
theorem proposalLapse : ∀ x0, Statement (.proposalLapse x0) := fun _ _ _ h => nomatch h
theorem tunnelRelay : ∀ x0 x1 x2, Statement (.tunnelRelay x0 x1 x2) := fun _ _ _ _ _ h => nomatch h
theorem orderPoint : Statement .orderPoint := fun _ _ h => nomatch h
theorem orderList : ∀ x0 x1, Statement (.orderList x0 x1) := fun _ _ _ _ h => nomatch h
theorem snapshotReq : ∀ x0 x1, Statement (.snapshotReq x0 x1) := fun _ _ _ _ h => nomatch h
theorem timeReq : ∀ x0 x1, Statement (.timeReq x0 x1) := fun _ _ _ _ h => nomatch h
theorem ptpSync : ∀ x0 x1 x2 x3 x4 x5, Statement (.ptpSync x0 x1 x2 x3 x4 x5) := fun _ _ _ _ _ _ _ _ h => nomatch h
theorem utcUnlock : Statement .utcUnlock := fun _ _ h => nomatch h
theorem serviceLinkDrop : Statement .serviceLinkDrop := fun _ _ h => nomatch h
theorem filterTick : ∀ x0 x1 x2, Statement (.filterTick x0 x1 x2) := fun _ _ _ _ _ h => nomatch h
theorem holdupCharged : Statement .holdupCharged := fun _ _ h => nomatch h
theorem reelClearDone : Statement .reelClearDone := fun _ _ h => nomatch h
theorem reelFlushDone : Statement .reelFlushDone := fun _ _ h => nomatch h
theorem debugDetach : ∀ x0, Statement (.debugDetach x0) := fun _ _ _ h => nomatch h
theorem coordinatorRailOut : Statement .coordinatorRailOut := fun _ _ h => nomatch h
theorem slateMissed : Statement .slateMissed := fun _ _ h => nomatch h
theorem wrapWindowClose : Statement .wrapWindowClose := fun _ _ h => nomatch h
theorem tlsSessionClose : ∀ x0, Statement (.tlsSessionClose x0) := fun _ _ _ h => nomatch h

end Sys2Proof.Laws.NoWord
end

