-- ==== Sys2Proof/Tests/Slice0.lean ====
section
/-! SUPPORT. The author's tests: ill-formed commands, operations on values that the spec or arithmetic by hand gives, and, for every
statement with hypotheses, a state and operands that meet them (`witness_…`, clause by clause). -/

namespace Sys2Proof.Tests

open Sys2Proof Sys2Proof.Machine

/-! ### Small states -/

/-- Reset, in a mode. -/
def inMode (m : Mode) : State := { State.reset with sys := { State.reset.sys with mode := m } }

/-- Reset, in a mode and at a point of a take. -/
def at_ (m : Mode) (p : TakePoint) : State := { inMode m with take := { State.reset.take with point := p } }

/-- Every lane changed alike. -/
def all_ (s : State) (f : Lane → Lane) : State := s.onLanes fun _ l => f l

/-- A lane in a phase. -/
def inPhase (p : Phase) (running : Bool) (l : Lane) : Lane := { l with fab := { l.fab with phase := p, running := running } }

/-- VITAL, with P0 in every lane. -/
def rush : State := all_ (at_ .vital .rushed) (inPhase .p0 true)

/-- The rushes, with every lane changed. -/
def rushWith (f : Lane → Lane) : State := all_ rush f

/-- A tile with a personality code, element and further bits of its configuration. -/
def tile (pers : BitVec 4) (e : Elem) (more : TileCfg) : Tile :=
  { addr := e, cfg := place 512 0 pers ||| place 512 8 e ||| more, wr := WaveReg.clear, out := Four.rep { kind := 0, route := 0, arg := 0 },
    queue := Four.rep [] }

/-- A vital state vector. -/
def vec (pers : BitVec 4) (tmr : BitVec 16) (ps : BitVec 24) : TileVec := { TileVec.zero with pers := pers, tmr := tmr, pstate := ps }

/-- One lane with one tile, its vector and its region enabled, in a phase. -/
def oneTile (p : Phase) (t : Tile) (v : TileVec) (l : Lane) : Lane :=
  { l with
    fab := { l.fab with phase := p, running := true, step := 0, tiles := [t] }
    vit := { l.vit with vec := [(cfgElem t.cfg, v)], reg := { l.vit.reg with regEn := 0xFFFF } } }

/-! ### Ill-formed commands (WellFormed) -/

theorem test_wf_session : Instr.wf (.payloadDeadline 0 0) = false ∧ Instr.wf (.sessionEn 0) = false ∧ Instr.wf (.sessionDis 0) = false
    ∧ Instr.wf (.sessionEn 1) = true := by decide
theorem test_wf_group : Instr.wf (.groupEn 0) = false ∧ Instr.wf (.groupDis 7) = false ∧ Instr.wf (.groupOverload 0) = false
    ∧ Instr.wf (.groupSag 7) = false ∧ Instr.wf (.sagRecover 0) = false ∧ Instr.wf (.groupEn 6) = true := by decide
theorem test_wf_frame : Instr.wf (.frameReceive .a false 0 0 { hdr := 0, payload := List.replicate 49 0, crc := 0, symOk := true }) = false
    ∧ Instr.wf (.health .link []) = false ∧ Instr.wf (.witnessBroadcast []) = false := by decide
theorem test_wf_pin : Instr.wf (.overcurrent 0) = false ∧ Instr.wf (.shortLoad 49) = false ∧ Instr.wf (.offChannelProbe 0 .zero) = false
    ∧ Instr.wf (.detectorProof [49] 0) = false ∧ Instr.wf (.filteredInputChange 0 false true) = false ∧ Instr.wf (.periodMeasure 0 0) = false
    ∧ Instr.wf (.periodTimeout 49) = false ∧ Instr.wf (.filterTick 0 true true) = false ∧ Instr.wf (.overcurrent 48) = true := by decide
theorem test_wf_readback : Instr.wf (.fieldReadback [{ pin := 0, elems := 0, vOdd := 0, vEven := 0, iHigh := 0, iRet := 0 }] []) = false
    ∧ Instr.wf (.fieldReadback [] [{ group := 7, volt := 0, curr := 0 }]) = false := by decide
theorem test_wf_numbers : Instr.wf (.cntPreset 0 0) = false ∧ Instr.wf (.cntPreset 9 0) = false ∧ Instr.wf (.tempHigh 6 0) = false
    ∧ Instr.wf (.laneMessage .a 0 (List.replicate 7 0)) = false ∧ Instr.wf (.railOut .a 0xF) = false
    ∧ Instr.wf (.equal { Vital.reset with hdr := { Vital.reset.hdr with start := { round := 0, slot := 0, tick := 250 } } } 0 true) = false := by
  decide
theorem test_wf_master : Instr.wf (.mailboxGo 7 0 8) = false ∧ Instr.wf (.semLockRead 7 0) = false ∧ Instr.wf (.semLockWrite 7 0 0) = false
    ∧ Instr.wf (.semForce 7 0) = false ∧ Instr.wf (.registerWrite 7 0 4 0) = false ∧ Instr.wf (.semForce 0 0) = true := by decide

/-! ### Operations -/

/-- The check values of CRC-32C and CRC-32 over "123456789". -/
theorem test_crc : crc32c [0x31, 0x32, 0x33, 0x34, 0x35, 0x36, 0x37, 0x38, 0x39] = 0xE3069283
    ∧ crc32 [0x31, 0x32, 0x33, 0x34, 0x35, 0x36, 0x37, 0x38, 0x39] = 0xCBF43926 := by decide +kernel

/-- FIPS 180-4: SHA-512 of "abc" begins DDAF 35A1 9361 7ABA. -/
theorem test_sha512 : (sha512 [0x61, 0x62, 0x63]).take 8 = [0xDD, 0xAF, 0x35, 0xA1, 0x93, 0x61, 0x7A, 0xBA] := by decide +kernel

/-- A take number wraps (R24), and later is modulo 2^32. -/
theorem test_later : later 0 0xFFFFFFFF = true ∧ later 0xFFFFFFFF 0 = false ∧ later 5 5 = false := by decide

/-- A command of an empty queue: the module idles; one command is taken off the queue. -/
theorem test_step : (step State.reset = .next State.reset)
    ∧ step { State.reset with pending := [.wrapWindowClose, .rushes] } = exec .wrapWindowClose { State.reset with pending := [.rushes] } :=
  ⟨rfl, rfl⟩

/-! ### Witnesses: the block and its takes -/

theorem witness_ExecKeepsQueue : exec .wrapWindowClose State.reset
    = .next { State.reset with pair := State.reset.pair.closeWindow } := rfl

theorem witness_StepKeepsMemoryForm : State.reset.memSafe = true ∧ step State.reset = .next State.reset := ⟨rfl, rfl⟩

/-- A module that waits for its next take. -/
def waiting : State := at_ .vital .deadline
/-- A take under way, P5 done in time in every lane. -/
def atX : State :=
  { all_ (at_ .vital .rushed) (inPhase .p5 true) with take := { State.reset.take with point := .rushed, nCur := 10 } }

/-- A second that waits for its next take, which a slate of round 5 marks. -/
def marking : State :=
  let s := all_ waiting fun l => { l with data := { l.data with nCfg := 10, nMax := 20 } }
  let x : Slate := { flags := 1, master := 9, round := 5, takeNum := 44, nCur := 12, nPend := 0, pendRound := 0, inTake := 0, claim := 0, logDig := 0 }
  { s with sys := { s.sys with role := .second }, net := { s.net with lastSlate := some x } }

theorem witness_TakesReachTheirPhases :
    ((waiting.take.point = .idle ∨ waiting.take.point = .deadline) ∧ waiting.sys.mode.runs = true ∧ waiting.moduleWraps = false
      ∧ waiting.stg.restartDue = false ∧ (0 : BitVec 40) = waiting.take.start.round + waiting.take.nCur.zeroExtend 40)
    ∧ ((marking.take.point = .idle ∨ marking.take.point = .deadline) ∧ marking.sys.mode.runs = true ∧ marking.moduleWraps = false
      ∧ marking.stg.restartDue = false ∧ marking.endDue = false ∧ marking.sys.role ≠ .lead
      ∧ ∃ x : Slate, marking.net.lastSlate = some x ∧ x.round = 5 ∧ bit x.flags 0 = true ∧ marking.lengthOk x.nCur = true ∧ x.nCur ≠ 0)
    ∧ (waiting.startsTake 3 false = false ∧ (at_ .vital .started).take.point ≠ .idle)
    ∧ (at_ .vital .started).take.point = .started
    ∧ (atX.sys.mode.runs = true ∧ ({ atX with take := { atX.take with point := .exchanged } } : State).take.point = .exchanged
      ∧ atX.moduleWraps = false ∧ atX.sys.modePend = none ∧ ∀ l : LaneId, (atX.lane l).evaluates = true ∧ (atX.lane l).settled5 = true) := by
  refine ⟨by decide, ⟨by decide, by decide, by decide, by decide, by decide, by decide, _, rfl, by decide⟩, by decide, rfl,
    by decide, rfl, by decide, rfl, fun l => ?_⟩
  cases l <;> decide

/-- A track whose detection is bound to pin 1, clear delay 5 takes; a platform track; a point; doors. -/
def track : Tile := tile 1 0x2A4 (place 512 160 (0x020A0002 : Word) ||| place 512 224 (5 : BitVec 16))
def platform : Tile := tile 1 0x2A5 (place 512 (224 + 32) (1 : BitVec 1))
def point : Tile := tile 2 0x2A6 0
def doors : Tile := tile 4 0x2A7 0
def auxlogic : Tile := tile 8 0x2A8 (place 512 (224 + 168) (1 : BitVec 1))
def signal : Tile := tile 3 0x2A9 (place 512 480 (100 : BitVec 13) ||| place 512 493 (10 : BitVec 8))

/-- What the section of P1 makes of a tile's vector. -/
def p1Of (l : Lane) (t : Tile) : TileVec :=
  sectionP1 (tileCtx l false t) (tileInputs (tileCtx l false t)) (vecOf l.vit.vec (cfgElem t.cfg))

/-- The lane is where a timer of a tile runs. -/
def runsTimer (l : Lane) (p : Phase) (t : Tile) : Bool :=
  l.evaluates && l.fab.running && decide (l.fab.phase = p) && decide (l.fab.step = 0) && regionOn l.vit.reg (cfgElem t.cfg)
    && decide (tileOf l.fab.tiles (cfgElem t.cfg) = some t)

def trackLane : Lane :=
  let l := oneTile .p1 track (vec 1 1 0b010) Lane.reset
  { l with vit := { l.vit with inputs := { l.vit.inputs with inX := 1 } } }
def platformLane : Lane := oneTile .p1 platform (vec 1 1 0) Lane.reset
def pointLane : Lane := oneTile .p1 point (vec 2 1 0b10100) Lane.reset
def doorsLane : Lane := oneTile .p1 doors (vec 4 1 0) Lane.reset

/-- P5 under way in lanes without tiles. -/
def inP5 : State := all_ (at_ .vital .rushed) (inPhase .p5 true)

theorem witness_WaveStepMovesAllTiles :
    ((inP5.lane .b).evaluates = true ∧ (inP5.lane .b).fab.running = true ∧ (inP5.lane .b).fab.stuck = false
      ∧ (inP5.lane .b).fab.phase ≠ .p0 ∧ (inP5.lane .b).fab.calls = [])
    ∧ (stepAll (inP5.lane .b) inP5.sys.settling .p5 1).evs.isEmpty = true ∧ (stepAll (inP5.lane .b) inP5.sys.settling .p5 1).reps.isEmpty = true
    ∧ (stepAll trackLane false .p1 1).evs.isEmpty = true ∧ ((stepAll trackLane false .p1 1).reps.any fun e => e.2.act) = true
    ∧ trackLane.fab.step + 1 < 1024 := by decide +kernel

theorem witness_P1TimersExpire :
    (runsTimer trackLane .p1 track = true ∧ track.wr.timed = false ∧ cfgPers track.cfg = .track
      ∧ ps (vecOf trackLane.vit.vec 0x2A4) 0 = false ∧ ps (p1Of trackLane track) 0 = true)
    ∧ (runsTimer platformLane .p1 platform = true ∧ platform.wr.timed = false ∧ cfgPers platform.cfg = .track
      ∧ ps (vecOf platformLane.vit.vec 0x2A5) 3 = false ∧ ps (p1Of platformLane platform) 3 = true)
    ∧ (runsTimer pointLane .p1 point = true ∧ point.wr.timed = false ∧ cfgPers point.cfg = .point
      ∧ ps (vecOf pointLane.vit.vec 0x2A6) 4 = true ∧ ps (p1Of pointLane point) 4 = false ∧ ps (p1Of pointLane point) 5 = true)
    ∧ (runsTimer doorsLane .p1 doors = true ∧ doors.wr.timed = false ∧ cfgPers doors.cfg = .doors
      ∧ ps (vecOf doorsLane.vit.vec 0x2A7) 4 = false ∧ ps (p1Of doorsLane doors) 4 = true) := by decide +kernel

def auxLane : Lane := oneTile .p2 auxlogic (vec 8 1 0b010) Lane.reset
def graceLane : Lane := oneTile .p5 signal (vec 3 0 (1 <<< 6)) Lane.reset
def approachLane : Lane := oneTile .p2 signal { vec 3 0 (1 <<< 12) with hold := 2, route := 103 } Lane.reset

theorem witness_LaterTimersExpire :
    (runsTimer auxLane .p2 auxlogic = true ∧ cfgPers auxlogic.cfg = .auxlogic ∧ paramBit auxlogic.cfg 168 = true
      ∧ ps (vecOf auxLane.vit.vec 0x2A8) 1 = true ∧ ps (vecOf auxLane.vit.vec 0x2A8) 2 = false ∧ (vecOf auxLane.vit.vec 0x2A8).tmr = 1
      ∧ ∃ p ∈ auxLane.vit.vec, p.1 = 0x2A8)
    ∧ (runsTimer graceLane .p5 signal = true ∧ cfgPers signal.cfg = .signal ∧ signal.wr.aspect = false
      ∧ field (vecOf graceLane.vit.vec 0x2A9).pstate 6 4 = 1#4 ∧ (vecOf graceLane.vit.vec 0x2A9).hold = 0
      ∧ ∃ p ∈ graceLane.vit.vec, p.1 = 0x2A9)
    ∧ (runsTimer approachLane .p2 signal = true ∧ (vecOf approachLane.vit.vec 0x2A9).hold ≠ 0
      ∧ isOwn signal.cfg (vecOf approachLane.vit.vec 0x2A9).route = true ∧ sigApproach (vecOf approachLane.vit.vec 0x2A9) = true
      ∧ (vecOf approachLane.vit.vec 0x2A9).tmr = 0 ∧ ∃ p ∈ approachLane.vit.vec, p.1 = 0x2A9) := by decide +kernel

theorem witness_ExchangePointExcludesOrSends :
    ((at_ .vital .rushed).take.point = .rushed ∧ ((at_ .vital .rushed).lane .a).evaluates = true
      ∧ ((at_ .vital .rushed).lane .a).settled5 = false)
    ∧ (atX.take.point = .rushed ∧ atX.takesRun = true
      ∧ (∀ l : LaneId, (atX.lane l).evaluates = true →
          (atX.lane l).settled5 = true ∧ (atX.lane l).fab.settleNs + 25000 < windowNs atX.take.nCur)
      ∧ (∃ l : LaneId, (atX.lane l).active = true)
      ∧ ∀ l : LaneId, (atX.lane l).active = true →
          pairDigest { (atX.lane l).vit with hdr := { (atX.lane l).vit.hdr with claim := atX.pair.claim } }
            = pairDigest { atX.laneA.vit with hdr := { atX.laneA.vit.hdr with claim := atX.pair.claim } }) := by
  refine ⟨by decide, by decide, by decide, fun l => ?_, ⟨.a, by decide⟩, fun l _ => ?_⟩
  · cases l <;> decide
  · cases l <;> rfl

/-- Three lanes with these digests, in a mode. -/
def digests (m : Mode) (a b c : Quad) : State :=
  let s := inMode m
  { s with laneA := { s.laneA with digest := a }, laneB := { s.laneB with digest := b }, laneC := { s.laneC with digest := c } }
/-- The same with lane C out of voting. -/
def digests2 (m : Mode) (a b : Quad) : State :=
  let s := digests m a b 0
  { s with laneC := { s.laneC with stat := { s.laneC.stat with state := .excluded } } }

theorem witness_DigestsAreJudged :
    (∀ l : LaneId, ((digests .vital 1 1 1).lane l).stat.state ≠ .recovering ∧ ((digests .vital 1 1 1).lane l).active = true)
    ∧ ((digests .vital 1 1 1).laneB.digest = (digests .vital 1 1 1).laneA.digest
        ∧ (digests .vital 1 1 1).laneC.digest = (digests .vital 1 1 1).laneA.digest)
    ∧ (∀ i j : LaneId, i ≠ .c → j ≠ .c → ((digests .vital 1 1 2).lane i).digest = ((digests .vital 1 1 2).lane j).digest)
    ∧ (∀ i : LaneId, i ≠ .c → ((digests .vital 1 1 2).lane i).digest ≠ ((digests .vital 1 1 2).lane .c).digest)
    ∧ ((digests .witness 1 2 3).laneA.digest ≠ (digests .witness 1 2 3).laneB.digest
        ∧ (digests .witness 1 2 3).laneA.digest ≠ (digests .witness 1 2 3).laneC.digest
        ∧ (digests .witness 1 2 3).laneB.digest ≠ (digests .witness 1 2 3).laneC.digest)
    ∧ ((digests2 .degraded 1 1).activeCount = 2 ∧ ((digests2 .degraded 1 1).lane .a).active = true
        ∧ ((digests2 .degraded 1 1).lane .b).active = true ∧ ((digests2 .degraded 1 1).lane .c).stat.state ≠ .recovering
        ∧ ((digests2 .degraded 1 1).lane .a).digest = ((digests2 .degraded 1 1).lane .b).digest
        ∧ ((digests2 .commissioning 1 2).lane .a).digest ≠ ((digests2 .commissioning 1 2).lane .b).digest) := by
  refine ⟨fun l => ?_, by decide, fun i j => ?_, fun i => ?_, by decide, by decide⟩
  · cases l <;> decide
  · cases i <;> cases j <;> decide
  · cases i <;> decide

/-- A take at L, P6 done in every lane. -/
def atD : State := { all_ (at_ .vital .latched) (inPhase .p6 true) with take := { State.reset.take with point := .latched, nCur := 10 } }

theorem witness_AgreedTakeIsCheckpointed : atD.take.point = .latched ∧ atD.sys.mode.runs = true ∧ atD.moduleWraps = false
    ∧ 2 ≤ atD.activeCount ∧ atD.stg.service ≠ .checking ∧ atD.stg.service ≠ .failed
    ∧ ∀ l : LaneId, (atD.lane l).evaluates = true ∧ (atD.lane l).settled6 = true ∧ (atD.lane l).fab.durs.getD 6 0 < 975000
        ∧ (atD.lane l).vit = atD.laneA.vit ∧ (atD.lane l).check = none ∧ atD.fio.cmd.get l = atD.fio.cmd.a ∧ atD.switchBad l = false := by
  refine ⟨rfl, by decide, by decide, by decide, by decide, by decide, fun l => ?_⟩
  cases l <;> exact ⟨by decide, by decide, by decide, rfl, rfl, rfl, by decide⟩

/-- A take that has begun, B of the one before it to come. -/
def beforeB : State := { at_ .vital .started with take := { State.reset.take with point := .started, boundDue := true } }

theorem witness_IdleWorkOfALane :
    (beforeB.take.boundDue = true ∧ beforeB.take.point = .started ∧ LaneId.b.inMask 0b010 = true
      ∧ ∀ l : LaneId, (beforeB.lane l).stat.running = false ∧ (beforeB.lane l).check = none ∧ (beforeB.lane l).evaluates = true)
    ∧ (waiting.takesRun = true ∧ (waiting.lane .a).evaluates = true ∧ (waiting.lane .a).fab.running = false
      ∧ (waiting.lane .a).mem.scrubTake = none ∧ 384 * (waiting.take.num.toNat % 64 % 4) + 1 < 1536
      ∧ rsDecode (memLoad (waiting.lane .a).mem.cells
          (scrubAt (waiting.lane .a).vit.reg (waiting.take.num.toNat % 64 / 4) (384 * (waiting.take.num.toNat % 64 % 4))).addr 36)
        = .ok (List.replicate 36 0) 0 0) := by
  refine ⟨⟨by decide, by decide, by decide, fun l => ?_⟩, by decide, by decide, by decide, by decide, by decide, by decide +kernel⟩
  cases l <;> decide

/-! ### Witnesses: commands of the rushes -/

/-- A pending request. -/
def req (r : RouteId) : Request := { route := r, seq := 1, item := 0 }

def pendingRush : State := rushWith fun l => { l with vit := { l.vit with pending := [req 7] } }

def fullRush : State := rushWith fun l => { l with vit := { l.vit with pending := List.replicate 256 (req 8) } }

theorem witness_RouteRequestsEnterAndLeave :
    (rush.rushing = true ∧ ∀ l : LaneId, (rush.lane l).inP0 = true ∧ (rush.lane l).vit.pending = [])
    ∧ (fullRush.rushing = true ∧ fullRush.laneA.inP0 = true ∧ 256 ≤ fullRush.laneA.vit.pending.length
      ∧ ∀ q ∈ fullRush.laneA.vit.pending, q.route ≠ 7)
    ∧ rtValid (Lane.reset.route 7) = false
    ∧ (pendingRush.rushing = true ∧ ∀ l : LaneId, (pendingRush.lane l).inP0 = true ∧ liveIn (pendingRush.lane l).vit 7 = false
      ∧ (pendingRush.lane l).vit.pending.find? (fun q => decide (q.route = 7)) = some (req 7)) := by
  refine ⟨⟨by decide, fun l => ?_⟩, by decide +kernel, by decide +kernel, by decide, fun l => ?_⟩ <;> cases l <;> decide

/-- The rushes over the tiles of one of each personality. -/
def tilesRush : State := rushWith fun l => { l with fab := { l.fab with tiles := [track, point, doors, tile 7 0x2AA 0] } }

theorem witness_RushItemsFollowTheirPersonality : tilesRush.rushing = true ∧ waiting.rushing = false ∧ ∀ l : LaneId, (tilesRush.lane l).inP0 = true
    ∧ (tilesRush.lane l).persOf 0x2A6 = .point ∧ (tilesRush.lane l).persOf 0x2A7 = .doors ∧ (tilesRush.lane l).persOf 0x2AA = .plunger
    ∧ (tilesRush.lane l).persOf 0x2A4 ≠ .point ∧ (tilesRush.lane l).persOf 0x2A4 ≠ .doors ∧ (tilesRush.lane l).persOf 0x2A4 ≠ .plunger := by
  refine ⟨by decide, by decide, fun l => ?_⟩; cases l <;> decide +kernel

/-- A route that a signal holds, and an entry of the emergency-release table. -/
def liveRush : State := rushWith fun l => { l with vit := { l.vit with vec := [(0x2A9, { vec 3 0 0 with hold := 2, route := 7 })] } }
def erlRush (running : Bool) : State := rushWith fun l => { l with vit := { l.vit with
  hdr := { l.vit.hdr with takeNum := 300 }, erl := [{ route := 7, armTake := 100, running := running, tmr := 0, expired := false }] } }

theorem witness_EmergencyReleaseSteps :
    (liveRush.rushing = true ∧ (erlRush false).rushing = true
      ∧ let s := all_ (erlRush false) fun l => { l with vit := { l.vit with hdr := { l.vit.hdr with takeNum := 400 } } }
        s.laneA.inP0 = true ∧ ∃ e ∈ s.laneA.vit.erl, e.route = 7 ∧ e.running = false ∧ 256 < (s.laneA.vit.hdr.takeNum - e.armTake).toNat)
    ∧ (∀ l : LaneId, (liveRush.lane l).inP0 = true ∧ liveIn (liveRush.lane l).vit 7 = true ∧ (∀ e ∈ (liveRush.lane l).vit.erl, e.route ≠ 7)
      ∧ (liveRush.lane l).vit.erl.length < 8)
    ∧ (∀ l : LaneId, ((erlRush false).lane l).inP0 = true ∧ ∃ e ∈ ((erlRush false).lane l).vit.erl, e.route = 7 ∧ e.running = false
      ∧ 1 ≤ (((erlRush false).lane l).vit.hdr.takeNum - e.armTake).toNat ∧ (((erlRush false).lane l).vit.hdr.takeNum - e.armTake).toNat ≤ 256)
    ∧ (∀ l : LaneId, ((erlRush true).lane l).inP0 = true ∧ ∃ e ∈ ((erlRush true).lane l).vit.erl, e.route = 7 ∧ e.running = true ∧ e.tmr = 0
      ∧ e.expired = false) := by
  refine ⟨by decide +kernel, fun l => ?_, fun l => ?_, fun l => ?_⟩ <;> cases l <;> decide +kernel

def checkRush : State := rushWith fun l =>
  { l with check := some { scope := 1, item := 2, set := 0, slice := 0, start := 0, seq := 0, result := none } }

theorem witness_EnablesAndDisables : (∀ l : LaneId, rush.rushing = true ∧ (rush.lane l).inP0 = true ∧ (rush.lane l).check = none)
    ∧ (∀ l : LaneId, checkRush.rushing = true ∧ (checkRush.lane l).inP0 = true
        ∧ (checkRush.lane l).check = some { scope := 1, item := 2, set := 0, slice := 0, start := 0, seq := 0, result := none })
    ∧ (1 ≤ (6 : BitVec 3).toNat ∧ (6 : BitVec 3).toNat ≤ 6) := by
  refine ⟨fun l => ?_, fun l => ?_, by decide⟩ <;> cases l <;> decide

/-- The rushes with a splice in a stage. -/
def spliceRush (g : SpliceStage) : State := rushWith fun l => { l with vit := { l.vit with
  hdr := { l.vit.hdr with takeNum := 10 }, reg := { l.vit.reg with stage := g, spliceSet := 3 } } }
/-- A partial manifest with splice set 3, as far as its fields go. -/
def partialManifest : Bytes := List.replicate 6 0 ++ [3] ++ List.replicate 20 0 ++ [3]

theorem witness_SpliceCommandsAdvance :
    (spliceMode rush.cmdMode = true ∧ (3 : BitVec 16) ≠ 0 ∧ popCount (3 : BitVec 16) 16 ≤ 14 ∧ rush.rushing = true ∧ rush.voice.inP0 = true
      ∧ rush.voice.vit.reg.stage = .none)
    ∧ (let s : State := { spliceRush .barred with stg := { State.reset.stg with state := .staged, manifest := partialManifest } }
       spliceMode s.cmdMode = true ∧ s.rushing = true ∧ s.voice.inP0 = true ∧ s.voice.vit.reg.stage = .barred ∧ s.verifiedSet = some s.voice.vit.reg.spliceSet)
    ∧ (let s := spliceRush .checked
       spliceMode s.cmdMode = true ∧ s.rushing = true ∧ s.laneA.inP0 = true ∧ s.laneA.vit.reg.stage = .checked ∧ s.laneA.spliceClear = true
         ∧ 2 ≤ ((20 : Word) - s.laneA.vit.hdr.takeNum).toNat ∧ ((20 : Word) - s.laneA.vit.hdr.takeNum).toNat ≤ 4096)
    ∧ waiting.rushing = false := by
  decide +kernel

theorem witness_ModeCommandsPend :
    (rush.cmdMode = .vital ∧ rush.rushing = true ∧ rush.voice.inP0 = true)
    ∧ (let s := all_ (at_ .commissioning .rushed) (inPhase .p0 true)
       s.cmdMode = .commissioning ∧ s.activeCount = 3 ∧ (∀ l : LaneId, (s.lane l).stat.dbg = false)
         ∧ (∀ e ∈ s.voice.vit.force, e.type ≠ 1 ∧ e.type ≠ 2) ∧ s.rushing = true ∧ s.voice.inP0 = true) := by
  refine ⟨by decide, by decide, by decide, fun l => ?_, by decide, by decide, by decide⟩
  cases l <;> decide

def forceArg (ty : Byte) : ForceArg := { target := 0x2A4, type := ty, first := 0, width := 0, value := 1 }
def commissioningRush : State := all_ (at_ .commissioning .rushed) fun l => { inPhase .p0 true l with
  fab := { (inPhase .p0 true l).fab with tiles := [track] } }

theorem witness_ForceTableFollowsCommands :
    (∀ ty ∈ ([1, 3] : List Byte), ∀ l : LaneId, commissioningRush.rushing = true ∧ (commissioningRush.lane l).inP0 = true
      ∧ commissioningRush.cmdMode = .commissioning ∧ spliceMode commissioningRush.cmdMode = true
      ∧ (commissioningRush.lane l).forceTarget (forceKey (forceArg ty) (commissioningRush.lane l).vit.hdr.takeNum) = true
      ∧ (commissioningRush.lane l).vit.force = [] ∧ 1 ≤ (forceArg ty).type.toNat ∧ (forceArg ty).type.toNat ≤ 6)
    ∧ (rush.cmdMode ≠ .commissioning ∧ rush.rushing = true ∧ (rush.lane .a).inP0 = true) := by
  refine ⟨fun ty h l => ?_, by decide⟩
  rcases List.mem_cons.mp h with rfl | h
  · cases l <;> decide +kernel
  · obtain rfl := List.mem_singleton.mp h
    cases l <;> decide +kernel

def heldRush : State := { rush with laneC := { rush.laneC with stat := { rush.laneC.stat with state := .shutdown, held := true } } }
def wrapRush : State := { rush with
  sys := { rush.sys with role := .lead }
  pair := { rush.pair with
    winOpen := true, wrapAge := 200, partMode := 6, partReport := List.replicate 17 0 ++ [4] ++ List.replicate 30 0, outWord := 16 } }
def settlingRush : State := spliceRush .settling

theorem witness_ServicesAreTaken :
    (heldRush.rushing = true ∧ heldRush.voice.inP0 = true ∧ LaneId.c.inMask heldRush.resettable = true)
    ∧ (wrapRush.rushing = true ∧ wrapRush.voice.inP0 = true ∧ wrapRush.wrapAllowed = true)
    ∧ (settlingRush.rushing = true ∧ settlingRush.laneA.inP0 = true ∧ settlingRush.laneA.vit.reg.stage = .settling ∧ getBE 64 settlingRush.laneA.data.logDigest 0 8 = 0)
    ∧ (rush.sys.mode ≠ .cut ∧ rush.sys.mode ≠ .boot ∧ rush.rushing = true ∧ rush.laneA.inP0 = true)
    ∧ (let s : State := { inMode .cut with sys := { (inMode .cut).sys with autoBlocked := true } }
       s.sys.mode = .cut ∧ s.sys.autoBlocked = true ∧ s.wrap.running = false) := by decide +kernel

/-! ### Witnesses: splices, lanes and memory -/

def loadingState : State :=
  let s := all_ (at_ .vital .rushed) fun l => { inPhase .p5 false l with
    fab := { (inPhase .p5 false l).fab with quiet := true }
    check := some { scope := 1, item := 2, set := 0, slice := 0, start := 0, seq := 0, result := none }
    vit := { l.vit with reg := { l.vit.reg with stage := .loading, spliceSet := 3 } } }
  { s with stg := { s.stg with state := .inUse, manifest := partialManifest } }
/-- A commit that is due, with a hold in the splice set or without. -/
def commitState (hold : BitVec 2) : State :=
  let s := all_ waiting fun l => { l with vit := { l.vit with
    hdr := { l.vit.hdr with takeNum := 10 }, vec := [(0x010, { vec 1 0 0 with hold := hold })]
    reg := { l.vit.reg with stage := .scheduled, spliceSet := 1, commitTake := 10, sched := true } } }
  { s with stg := { s.stg with state := .inUse, manifest := partialManifest } }
def settledState : State := all_ waiting fun l => { l with
  noticed := true
  vit := { l.vit with hdr := { l.vit.hdr with takeNum := 80 }, reg := { l.vit.reg with stage := .settling, spliceSet := 1, commitTake := 10 } } }

theorem witness_SpliceWorkOfABoundary :
    (loadingState.idleLane loadingState.laneA = true ∧ (loadingState.laneA.check.map fun k => k.lags loadingState.laneA.vit.hdr.takeNum) = some true)
    ∧ waiting.laneA.check = none
    ∧ (loadingState.loadSet = some 3 ∧ loadingState.stagedImage.isSome = true ∧ loadingState.idleLane (loadingState.lane .b) = true
      ∧ (loadingState.lane .b).mem.loaded < loadTakes 3 ∧ (loadingState.lane .b).mem.loadTake = none)
    ∧ ((commitState 0).take.point = .deadline ∧ (commitState 0).sys.mode.runs = true ∧ commitDue (commitState 0).voice.vit = true
      ∧ (commitState 0).stagedImage.isSome = true ∧ (commitState 0).laneA.evaluates = true ∧ commitDue (commitState 0).laneA.vit = true
      ∧ (commitState 0).laneA.vit.reg.stage = .scheduled ∧ (commitState 0).laneA.spliceClear = true
      ∧ (commitState 2).laneA.spliceClear = false)
    ∧ (settledState.take.point = .deadline ∧ settledState.sys.mode.runs = true ∧ settledState.voice.settled = true
      ∧ settledState.laneB.evaluates = true ∧ settledState.laneB.settled = true) := by decide +kernel

def outState (m : Mode) : State := digests2 m 0 0

theorem witness_LanesLeaveAndReturn :
    (((inMode .vital).lane .a).evaluates = true ∧ ((inMode .vital).lane .a).active = true ∧ (inMode .vital).activeCount = 3)
    ∧ (((outState .degraded).lane .a).active = true ∧ (outState .degraded).activeCount = 2)
    ∧ ((inMode .vital).sys.mode ≠ .commissioning)
    ∧ ((inMode .commissioning).sys.mode = .commissioning ∧ ((inMode .commissioning).lane .b).stat.dbg = false
      ∧ ((inMode .commissioning).lane .b).evaluates = true)
    ∧ (let s : State := { outState .degraded with laneC := { (outState .degraded).laneC with rails := 0xF } }
       (s.lane .c).mayRecover = true ∧ s.wrap.running = false ∧ (s.lane .c).stat.reload = false)
    ∧ (∃ k : Checkpoint, ({ Lane.reset with ckptA := some { vital := Vital.reset, station := 0, digest := 0 } } : Lane).newest = some k) := by
  refine ⟨by decide, by decide, by decide, by decide, by decide, ⟨_, rfl⟩⟩

/-! ### Witnesses: rings and telegrams -/

/-- A call sheet entry: SLOT, KIND, SMODE, SENDER, DEST, session. -/
def entry (slot : BitVec 12) (kind : BitVec 4) (smode : BitVec 2) (sender dest : BitVec 12) (ses : SesId) : BitVec 64 :=
  place 64 52 slot ||| place 64 48 kind ||| place 64 46 smode ||| place 64 34 sender ||| place 64 21 dest ||| place 64 12 ses

/-- An integrated node 5 in VITAL at slot 100, both streams of ring A in use; slot 100 is a response of node 9 to it, slot 101 its own. -/
def onRings : State :=
  let s := all_ (at_ .vital .started) fun l => { l with
    rails := 0xF, data := { l.data with callSheet := [entry 100 5 1 9 5 3, entry 101 6 1 5 0 0] } }
  { s with
    now := { round := 7, slot := 100, tick := 0 }
    net := { s.net with
      node := 5, sync := .integrated, master := true, rounds := 3, guard := [101]
      ringA := { s.net.ringA with fwd := { s.net.ringA.fwd with use := true, grid := true, path := 3000 }
                                  rev := { s.net.ringA.rev with use := true, grid := true } } } }
def response : Frame := mkFrame (mkHeader 100 9 5 48 .a 5 0) (List.replicate 48 0)

theorem witness_FramesAreReceived :
    (onRings.net.silentDue = false ∧ onRings.net.sync = .integrated ∧ onRings.awake = true ∧ onRings.net.watching = false
      ∧ linkOk { response with symOk := false } = false)
    ∧ (linkOk response = true ∧ hSource response.hdr ≠ onRings.net.node ∧ headerOk response.hdr = true ∧ hKind response.hdr = 5
      ∧ hLen response.hdr = 48 ∧ hSlot response.hdr = 100 ∧ callEntry onRings.voice.data 100 = some (entry 100 5 1 9 5 3)
      ∧ onRings.entryFits (entry 100 5 1 9 5 3) response.hdr = true ∧ (250 : Int).natAbs ≤ 250 ∧ (onRings.net.ring .a).inUse false = true
      ∧ ((onRings.net.ring .a).stream false).grid = true ∧ ((onRings.net.ring .a).stream false).path.toNat ≤ pathLimit
      ∧ onRings.now.slot = 100 ∧ onRings.now.tick = 0 ∧ (onRings.frameStamp onRings.now .a false 250).round = onRings.now.round
      ∧ onRings.net.slotRx = []) := by decide +kernel

theorem witness_FramesAreSent :
    (onRings.net.silentDue = false ∧ onRings.inserts = true
      ∧ (let s : State := { onRings with now := { round := 7, slot := 102, tick := 0 } }
         s.now.slot = 102 ∧ s.now.tick = 0 ∧ callEntry s.voice.data 102 = none))
    ∧ ({ onRings with net := { onRings.net with master := false, rounds := 0 } } : State).barsSlots = true
    ∧ (let s : State := { onRings with now := { round := 7, slot := 101, tick := 0 } }
       s.net.silentDue = false ∧ s.inserts = true ∧ s.now.slot = 101 ∧ s.now.tick = 0 ∧ (101 : BitVec 12) ≠ 0
         ∧ callEntry s.voice.data 101 = some (entry 101 6 1 5 0 0) ∧ s.ownRings (entry 101 6 1 5 0 0) = [.a, .b]
         ∧ csKind (entry 101 6 1 5 0 0) = 6 ∧ s.pairSlot 101 = none)
    ∧ (let s : State := { all_ onRings fun l => { l with data := { l.data with callSheet := [entry 0 1 1 5 0xFFF 0] } } with
          now := { round := 7, slot := 0, tick := 0 }, net := { onRings.net with guard := [0] } }
       s.inserts = true ∧ s.net.master = true ∧ s.now.slot = 0 ∧ callEntry s.voice.data 0 = some (entry 0 1 1 5 0xFFF 0)
         ∧ s.ownRings (entry 0 1 1 5 0xFFF 0) = [.a, .b]) := by decide +kernel

theorem witness_RingPortsAndSilence :
    (onRings.awake = true ∧ bit (1 : Byte) 0 = true ∧ (599900 : BitVec 24).toNat + (210 - (10 : BitVec 16).toNat) / 2 ≤ pathLimit)
    ∧ (({ onRings with net := { onRings.net with missRun := 3 } } : State).net.silentDue = true)
    ∧ onRings.net.silentDue = false
    ∧ (let s : State := { onRings with net := { onRings.net with master := false } }
       s.net.sync = .integrated ∧ s.net.master = false ∧ s.net.handover = none ∧ (s.net.lastSlate.map (·.round)) ≠ some s.now.round) := by
  decide +kernel

theorem witness_ColdStart :
    (let s : State := { inMode .ready with net := { State.reset.net with sync := .listening } }
     s.net.sync = .listening ∧ s.net.watching = false ∧ s.awake = true)
    ∧ (let s : State := { inMode .ready with net := { State.reset.net with sync := .backingOff } }
       s.net.sync = .backingOff ∧ s.awake = true)
    ∧ (let s : State := { inMode .ready with net := { State.reset.net with watching := true } }
       s.net.watching = true ∧ s.awake = true)
    ∧ (let s : State := { inMode .ready with net := { State.reset.net with terminating := true }, now := { round := 1, slot := 400, tick := 0 } }
       s.net.terminating = true ∧ s.net.master = false ∧ s.now.slot = 400 ∧ s.now.tick = 0) := by decide

/-- A session record, enabled. -/
def sesRec (n : SesId) : SesRec :=
  { ses := n, enabled := true, fresh := false, ever := false, claimAhead := false, diff := false, timeout := false, age := 0, rxRound := 0,
    echo := 0, rxClaim := 0, txTake := 0, txClaim := 0, force := false, paired := false, sending := false }
/-- Sending for session 3, which every lane has a telegram for; one response is delivered. -/
def withSession (payload : Bytes) : State :=
  let s := all_ onRings fun l => { l with
    vit := { l.vit with ses := [sesRec 3] }
    eff := { payloads := [{ ses := 3, claim := 1, take := 2, force := false, paired := true, elem := 0 }], pins := 0 } }
  { s with
    pair := { s.pair with sending := true }
    net := { s.net with delivered := [{ ring := .a, slot := 100, round := 7, stamp := NetTime.zero, frame := { response with payload := payload }
                                        was := none, gone := false }] } }
/-- The payload of a response of session 3 in round 7. -/
def goodPayload : Bytes := sealPayload ([0x02, 0x03] ++ toBytes 4 (1 : Word) ++ toBytes 4 (7 : Word))
def slot100 (payload : Bytes) : SlotRx :=
  { ring := .a, slot := 100, round := 7, stamp := NetTime.zero, frame := { response with payload := payload }, was := none, gone := false }

theorem witness_TelegramsGoAndCome :
    ((withSession []).sys.mode.runs = true ∧ (withSession []).pair.sending = true ∧ (sesRecOf (withSession []).voice.vit.ses 3).enabled = true
      ∧ (withSession []).inNextTake ((withSession []).slotTime (sesCmdSlot (sesEntry (withSession []).voice.data 3))) = false
      ∧ (∀ l : LaneId, ((withSession []).lane l).evaluates = true
          ∧ (((withSession []).lane l).telegram 3 (field
              ((withSession []).slotTime (sesCmdSlot (sesEntry (withSession []).voice.data 3))).round 0 32)).isSome = true))
    ∧ ((withSession []).net.delivered = [slot100 []] ∧ (withSession []).receives .a = true
      ∧ ((callEntry ((withSession []).lane .a).data 100).map csSes).getD 0 = 3
      ∧ (onRings.receives .a = true ∧ ((callEntry (onRings.lane .a).data 100).map csSes).getD 0 = 3
        ∧ ((onRings.lane .a).rxVerdict 3 (slot100 [])) = .disabled) ∧ (((withSession []).lane .a).rxVerdict 3 (slot100 [])) = .codeErr
      ∧ (((withSession goodPayload).lane .a).rxVerdict 3 (slot100 goodPayload)) = .held) := by
  refine ⟨⟨by decide, by decide, by decide, by decide, fun l => ?_⟩, by decide +kernel⟩
  cases l <;> exact ⟨by decide, rfl⟩

/-! ### Witnesses: lead, second and witness -/

/-- A module in VITAL with the pair link up, in a role. -/
def paired (r : Role) : State :=
  let s := at_ .vital .exchanged
  { s with sys := { s.sys with role := r }, pair := { s.pair with linkUp := true, rxUp := true, partRxUp := true, partner := 2 } }

theorem witness_PairLinkAndItsMessages :
    ((paired .lead).awake = true ∧ (paired .lead).pair.linkUp = true ∧ (paired .lead).pair.rxUp = true ∧ (paired .lead).pair.partRxUp = true)
    ∧ ((paired .second).linkUses true = true ∧ (paired .second).takesRun = true ∧ (paired .second).sys.role = .second)
    ∧ ((paired .lead).linkUses true = true ∧ (paired .lead).sys.role = .lead ∧ (paired .lead).pair.demoted = false)
    ∧ (9 : NodeId) ≠ (paired .second).net.node := by decide

/-- A payload with its code that begins with these bytes. -/
def sealed (l : Bytes) : Bytes := sealPayload l

theorem witness_AgreementAndDemotion :
    (let s : State := { paired .lead with pair := { (paired .lead).pair with ownDig := some 5 } }
     s.linkUses true = true ∧ s.takesRun = true ∧ s.sys.role = .lead ∧ s.pair.demoted = false ∧ s.pair.agreeSent = false
       ∧ s.pair.ownDig = some 5 ∧ s.take.point = .exchanged)
    ∧ (checkedPayload (sealed [2]) = true ∧ (sealed [2]).getD 0 0 = 2 ∧ bit ((sealed [2]).getD 16 0) 7 = false)
    ∧ ((paired .second).linkUses true = true ∧ (paired .second).sys.role = .second ∧ (paired .second).sys.mode.runs = true) := by decide +kernel

theorem witness_EqualizationAndLosses :
    (let s : State := { inMode .integrating with pair := { State.reset.pair with linkUp := true } }
     s.linkUses true = true ∧ s.sys.mode = .integrating ∧ s.pair.loaded = false)
    ∧ (let s : State := { paired .lead with net := { State.reset.net with noFrame := 4 } }
       s.sys.role = .lead ∧ s.sys.mode.runs = true ∧ s.pair.linkUp = true ∧ 4 ≤ s.net.noFrame ∧ s.pair.resigned = false)
    ∧ (let s : State := { inMode .vital with
          now := { round := 4, slot := 2776, tick := 0 }, pair := { State.reset.pair with partner := 2, witRounds := 8 } }
       s.now.slot = 2776 ∧ s.now.tick = 0 ∧ s.pair.unseen = true ∧ s.claims = true ∧ s.pair.lost = false ∧ s.pair.partner ≠ 0
         ∧ 8 ≤ s.pair.witRounds) := by decide

/-- A health report of node 2 that requests. -/
def request : Bytes := [2, 0, 0, 2] ++ List.replicate 12 0 ++ [2]
def deciding : State :=
  let s := all_ (inMode .witness) fun l => { l with data := { l.data with witness := [0, 1, 0, 2] } }
  { s with wit := { s.wit with claim := 17, holder := 1, reports := [(1, request)] } }

theorem witness_WitnessGivesTheRole :
    (checkedPayload (sealed [1]) = true ∧ (sealed [1]).getD 0 0 = 1 ∧ (inMode .vital).claims = true)
    ∧ checkedPayload [] = false
    ∧ (deciding.sys.mode = .witness ∧ deciding.wit.reports = [(1, request)] ∧ reportRequests request = true ∧ reportNode request ≠ 0
      ∧ reportNode request ≠ deciding.wit.holder ∧ (compNodes deciding.voice.data.witness).contains (reportNode request) = true)
    ∧ ((inMode .witness).sys.mode = .witness ∧ ∀ e ∈ (inMode .witness).wit.reports, reportRequests e.2 = false) := by decide +kernel

theorem witness_SelfTestsAndWrapCycle :
    (let s : State := { inMode .vital with take := { State.reset.take with num := 12 } }
     s.sys.mode.runs = true ∧ s.take.num.toNat % 8 = (4 : BitVec 3).toNat ∧ s.sys.mode ≠ .degraded)
    ∧ (wrapRush.coordUp = true ∧ wrapRush.wrapAllowed = true ∧ wrapRush.pair.cycleOn = false ∧ wrapRush.port.locals = []) := by decide +kernel

/-! ### Witnesses: modes and supply -/

theorem witness_StartsReachTheirMode :
    (let s : State := { inMode .ready with pwr := { State.reset.pwr with standinEn := true } }
     s.sys.mode = .ready ∧ s.pwr.standinEn = true ∧ s.wrap.running = false ∧ s.linkHolder = false)
    ∧ ((inMode .standIn).sys.mode = .standIn ∧ (inMode .standIn).pwr.cue = false)
    ∧ (inMode .off).sys.mode = .off
    ∧ (let s : State := { inMode .boot with wrap := { State.reset.wrap with module := 1, moduleOk := true } }
       s.sys.mode = .boot ∧ s.coordUp = true ∧ s.wrap.running = false ∧ s.wrap.module = 1 ∧ s.wrap.moduleOk = true ∧ s.stg.copyOpen = false)
    ∧ ((inMode .cut).sys.mode = .cut ∧ (inMode .cut).sys.autoBlocked = false ∧ (inMode .cut).wrap.running = false) := by decide

theorem witness_VerifyJudgesLanes :
    ((inMode .verify).sys.mode = .verify ∧ ((inMode .verify).lane .a).stat.state ≠ .excluded)
    ∧ (let s : State := { at_ .vital .started with sys := { (at_ .vital .started).sys with settling := true } }
       s.take.point = .started ∧ s.sys.settling = true ∧ s.sys.settleLeft = 0) := by decide

theorem witness_SupplyAndHeat :
    ((inMode .vital).supplied = true ∧ (inMode .vital).sys.mode ≠ .off)
    ∧ ((599 : BitVec 12).toNat < 600 ∧ 600 ≤ (600 : BitVec 12).toNat)
    ∧ (let s : State := { inMode .ready with
          pwr := { State.reset.pwr with charged := true, measured := true, time := 600 }, net := { State.reset.net with sync := .integrated } }
       s.supplied = true ∧ s.pwr.charged = true ∧ s.pwr.measured = true ∧ 600 ≤ s.pwr.time.toNat ∧ s.sys.mode = .ready
         ∧ s.net.sync = .integrated ∧ s.wrap.running = false)
    ∧ (((inMode .vital).lane .b).stat.domainOn = true ∧ (0xE : BitVec 4) ≠ 0xF ∧ ((inMode .vital).lane .b).evaluates = true
      ∧ ((inMode .vital).lane .b).thermal = false)
    ∧ ((5 : BitVec 3).toNat < 6 ∧ (inMode .vital).pwr.temps[(5 : BitVec 3).toNat]? = some (0, 0) ∧ 850 ≤ (850 : BitVec 16).toInt) := by decide

theorem witness_LinesAndSecurity :
    ((inMode .vital).supplied = true ∧ (0xF : BitVec 4) ≠ (inMode .vital).lines)
    ∧ (inMode .ready).sys.mode = .ready
    ∧ (let s : State := { inMode .ready with pwr := { State.reset.pwr with enrolOpen := true, devKey := true } }
       s.enrols = true ∧ s.pwr.devKey = true) := by decide +kernel

/-! ### Witnesses: field I/O -/

/-- A started take with pins of one mode, 24 V in every group, and what lanes A and B command. -/
def field_ (mode : Word) (cmd : BitVec 48) : State :=
  let s := all_ (at_ .vital .started) fun l => { l with data := { l.data with pins := List.replicate 48 mode } }
  { s with fio := { s.fio with
      cmd := { a := cmd, b := cmd, c := 0 }, tokens := Three.rep { count := none, alive := true }
      groups := s.fio.groups.map fun g => { g with volt := 24000 } } }
def reading (p : Pin) : Reading := { pin := p, elems := 0, vOdd := 24000, vEven := 0, iHigh := 0, iRet := 0 }

theorem witness_SnapshotAndReadback :
    ((field_ 1 0).take.point = .started ∧ 0 < 48 ∧ (field_ 1 0).fio.pins[0]? = some PinSt.reset ∧ pinInput (field_ 1 0).voice.data 1 = true
      ∧ (let x : PinSt := { PinSt.reset with outX := true, differ := 7 }
         x.outX ≠ x.outY ∧ x.differ = 7 ∧ x.fault = 0)
      ∧ pinInput (field_ 3 0).voice.data 1 = false)
    ∧ (let s : State := { field_ 3 0 with
          take := { State.reset.take with point := .rushed }, now := { round := 1, slot := 0, tick := 0 } }
       s.take.point = .rushed ∧ (s.take.start.plus 50000).ticks ≤ s.now.ticks ∧ pinMode s.voice.data (reading 48).pin.toNat = 3#3
         ∧ 1 ≤ (reading 48).pin.toNat ∧ s.fio.pins[(reading 48).pin.toNat - 1]? = some PinSt.reset
         ∧ 1 ≤ ((6 : BitVec 3)).toNat ∧ (s.fio.groups[(6 : BitVec 3).toNat - 1]?).isSome = true)
    ∧ waiting.take.point = .deadline := by decide +kernel

theorem witness_ChannelFaultsOpenChannels :
    ((field_ 4 1).isChannel (oddPin (2 : Pin).toNat) = true ∧ (field_ 4 1).isOn (oddPin (2 : Pin).toNat) = true
      ∧ oddPin (2 : Pin).toNat ≤ (field_ 4 1).fio.pins.length)
    ∧ (((field_ 4 1).groupChannels (1 : BitVec 3).toNat).any (field_ 4 1).isOn = true ∧ 1 ∈ (field_ 4 1).groupChannels (1 : BitVec 3).toNat
      ∧ faultRestricts ((field_ 4 1).pin 1).fault = false)
    ∧ (let s : State := { field_ 4 0 with fio := { (field_ 4 0).fio with
          pins := (field_ 4 0).fio.pins.set 0 { PinSt.reset with reading := reading 1 } } }
       s.isChannel (oddPin (1 : Pin).toNat) = true ∧ s.isOn (oddPin (1 : Pin).toNat) = false
         ∧ (s.pin (oddPin (1 : Pin).toNat)).reading.pin.toNat = oddPin (1 : Pin).toNat
         ∧ readsOff (s.pinVolt (oddPin (1 : Pin).toNat)) (s.pin (oddPin (1 : Pin).toNat)).reading = false
         ∧ faultRestricts (s.pin (oddPin (1 : Pin).toNat)).fault = false ∧ oddPin (1 : Pin).toNat ≤ s.fio.pins.length) := by decide +kernel

theorem witness_GroupsAndFilters :
    (1 ≤ (6 : BitVec 3).toNat ∧ (6 : BitVec 3).toNat ≤ 6
      ∧ ((field_ 1 0).fio.groups[(6 : BitVec 3).toNat - 1]?).map (·.sag) = some false)
    ∧ (let s : State := { field_ 1 0 with fio := { (field_ 1 0).fio with groups := (field_ 1 0).fio.groups.map fun g => { g with sag := true } } }
       (s.fio.groups[(1 : BitVec 3).toNat - 1]?).map (·.sag) = some true)
    ∧ (pinInput (field_ 1 0).voice.data (9 : Pin).toNat = true ∧ 9 ≤ (9 : Pin).toNat
      ∧ (field_ 1 0).fio.pins[(9 : Pin).toNat - 1]? = some PinSt.reset ∧ PinSt.reset.outY ≠ true) := by decide +kernel

/-- An input with COUNT_EN and FREQ_EN. -/
def countEntry : Word := 1 ||| place 32 19 (3 : BitVec 2)

theorem witness_FieldCounters :
    (pinInput (field_ countEntry 0).voice.data (8 : Pin).toNat = true ∧ 1 ≤ (8 : Pin).toNat ∧ (8 : Pin).toNat ≤ 8
      ∧ bit ((field_ countEntry 0).pinEntry (8 : Pin).toNat) 19 = true
      ∧ (field_ countEntry 0).fio.pins[(8 : Pin).toNat - 1]? = some PinSt.reset ∧ PinSt.reset.outX = false
      ∧ bit ((field_ countEntry 0).pinEntry (8 : Pin).toNat) 20 = true
      ∧ ({ PinSt.reset with lastEdge := some 4 } : PinSt).lastEdge = some 4)
    ∧ ((field_ countEntry 0).coordUp = true ∧ 1 ≤ (8 : BitVec 4).toNat ∧ (8 : BitVec 4).toNat ≤ 8
      ∧ (field_ countEntry 0).fio.pins[(8 : BitVec 4).toNat - 1]? = some PinSt.reset) := by decide +kernel

theorem witness_RefreshGatesOutputs :
    ((field_ 4 1).sys.mode.runs = true ∧ ((field_ 4 1).lane .a).active = true ∧ ((field_ 4 1).fio.tokens.get .a).count = none)
    ∧ (∀ k : LaneId, k ≠ .a → ((inMode .vital).fio.tokens.get k).alive = false)
    ∧ (let s : State := { field_ 4 1 with fio := { (field_ 4 1).fio with silent := true } }
       s.fio.silent = true ∧ 2 ≤ s.fio.refreshed)
    ∧ bit (energized (field_ 4 1)) 0 = true := by
  refine ⟨by decide, fun k => ?_, by decide, by decide +kernel⟩
  cases k <;> decide

/-! ### Witnesses: the Reel -/

def bucket60 : Bucket := { code := 0x60, rate := 8, burst := 32, tokens := 0, supp := 0, first := 0, last := 0, lastAt := NetTime.zero }

theorem witness_ReelRates :
    (let s : State := { inMode .vital with reel := { State.reset.reel with buckets := [bucket60] } }
     s.reel.full = false ∧ reelBucket s.reel 0x60 = some bucket60 ∧ bucket60.tokens = 0)
    ∧ ((inMode .vital).coordUp = true ∧ 1 ≤ (field (0x0140 : Word) 0 8).toNat ∧ (field (0x0140 : Word) 0 8).toNat ≤ 64
      ∧ 1 ≤ (field (0x0140 : Word) 8 8).toNat)
    ∧ (inMode .vital).reel.clearReq = none
    ∧ ({ State.reset.reel with clearing := true } : ReelSt).clearing = true := by decide

theorem witness_ReelCommands : ({ State.reset.reel with flushing := true } : ReelSt).flushing = true
    ∧ (let s : State := { State.reset with now := NetTime.atRound 8437500 }
       s.port.ptp.locked = false ∧ s.reel.daily.since.toNat + 8437500 ≤ s.now.round.toNat)
    ∧ (let s : State := { State.reset with now := NetTime.atRound 8437499 }
       s.port.ptp.locked = false ∧ s.now.round.toNat < s.reel.daily.since.toNat + 8437500)
    ∧ (let s : State := { State.reset with
          take := { State.reset.take with point := .started }
          port := { State.reset.port with ptp := { State.reset.port.ptp with locked := true } } }
       s.port.ptp.locked = true ∧ s.take.point = .started ∧ (1 : Word) ≠ s.reel.daily.day ∧ (0 : Word) = s.reel.daily.day) := by decide

/-! ### Witnesses: staging and activation -/

/-- The neutral point of Ed25519, in its 32 bytes, and a key slot that holds it. -/
def neutral : Bytes := 1 :: List.replicate 31 0
/-- A manifest of a witness image: header, two sections, two block codes, and the signature (neutral point, 0), which verifies under the key
`neutral` for every message. -/
def witnessManifest : Bytes :=
  [0x48, 0x43, 0x49, 0x4D, 0, 1, 4, 2] ++ List.replicate 8 0 ++ [0, 2, 2] ++ List.replicate 349 0
    ++ ([4, 0, 0, 0, 0, 0, 0x80, 0] ++ List.replicate 72 0) ++ ([8, 0, 0, 1, 0, 0, 0, 16] ++ List.replicate 72 0)
    ++ List.replicate 8 0 ++ (neutral ++ List.replicate 32 0)
/-- A lane whose first station key is the neutral point. -/
def keyLane (l : Lane) : Lane := { l with keys := [some (ofBytes 256 neutral), none, none, none] }

/-- The neutral point in extended coordinates. -/
def Neutral (p : EdPoint) : Prop := p.x = 0 ∧ p.t = 0 ∧ p.y = p.z

theorem edAdd_neutral (p q : EdPoint) (hp : Neutral p) (hq : Neutral q) : Neutral (edAdd p q) := by
  obtain ⟨px, pt, py⟩ := hp
  obtain ⟨qx, qt, qy⟩ := hq
  unfold Neutral edAdd
  rw [px, pt, qx, qt, py, qy]
  generalize edP = P
  generalize edD = D
  have e1 : (p.z + P - 0) * (q.z + P - 0) % P = p.z * q.z % P := by simp [Nat.mul_mod]
  have e2 : (p.z + 0) * (q.z + 0) % P + P - (p.z + P - 0) * (q.z + P - 0) % P = P := by rw [e1]; simp
  simp only [e1]
  refine ⟨by simp, by simp, ?_⟩
  have e3 : 2 * 0 * 0 * D % P = 0 := by simp
  rw [e3]
  have h1 : (p.z + 0) * (q.z + 0) % P + p.z * q.z % P ≡ 2 * p.z * q.z % P [MOD P] := by
    unfold Nat.ModEq
    simp only [Nat.add_zero, Nat.mod_mod, Nat.add_mod_mod, Nat.mod_add_mod]
    congr 1; ring
  generalize 2 * p.z * q.z % P = d at h1 ⊢
  generalize (p.z + 0) * (q.z + 0) % P + p.z * q.z % P = h at h1 ⊢
  have h2 : (d + 0) * h ≡ d * d [MOD P] := by simpa using Nat.ModEq.mul_left d h1
  have h3 : (d + P - 0) * (d + 0) ≡ d * d [MOD P] := by
    have : d + P - 0 ≡ d [MOD P] := by simp [Nat.ModEq]
    simpa using Nat.ModEq.mul_right d this
  exact h2.trans h3.symm

theorem edMul_neutral (n k : Nat) (p : EdPoint) (h : Neutral p) : Neutral (edMul n k p) := by
  induction n generalizing k p with
  | zero => exact ⟨rfl, rfl, rfl⟩
  | succ n ih =>
    unfold edMul
    dsimp only
    split
    · exact edAdd_neutral _ _ h (ih _ _ (edAdd_neutral _ _ h h))
    · exact ih _ _ (edAdd_neutral _ _ h h)

theorem edMul_none (n : Nat) (p : EdPoint) : edMul n 0 p = edZero := by
  induction n generalizing p with
  | zero => rfl
  | succ n ih => unfold edMul; simp [ih]

theorem edEq_neutral (p q : EdPoint) (hp : Neutral p) (hq : Neutral q) : edEq p q = true := by
  obtain ⟨px, pt, py⟩ := hp
  obtain ⟨qx, qt, qy⟩ := hq
  unfold edEq
  rw [px, qx, py, qy]
  simp [Nat.mul_comm]

theorem edBase_some : edBase.isSome = true := by decide +kernel
theorem edDecode_neutral : edDecode neutral = some edZero := by decide +kernel

/-- Under the neutral key the signature of the neutral point and 0 verifies for every message. -/
theorem neutral_verifies (msg : Bytes) : ed25519Verify neutral msg (neutral ++ List.replicate 32 0) = true := by
  have h1 : (neutral ++ List.replicate 32 0).take 32 = neutral := by decide
  have h2 : natOfLE (((neutral ++ List.replicate 32 (0 : Byte)).drop 32).take 32) = 0 := by decide
  obtain ⟨b, hb⟩ := Option.isSome_iff_exists.mp edBase_some
  have hz : Neutral edZero := ⟨rfl, rfl, rfl⟩
  unfold ed25519Verify
  simp only [h1, h2, hb, edDecode_neutral, edMul_none]
  rw [edEq_neutral _ _ hz (edAdd_neutral _ _ hz (edMul_neutral _ _ _ hz))]
  decide

/-- VITAL with the neutral key in every lane. -/
def keyed : State := all_ (inMode .vital) keyLane

theorem keyed_ok : manifestOk witnessManifest = true := by decide +kernel
theorem keyed_fits : keyed.voice.keyFits witnessManifest = true := by decide +kernel
theorem keyed_key : keyed.voice.keyOf (manKey witnessManifest) = some (ofBytes 256 neutral) := by decide +kernel
theorem keyed_bytes : toBytes 32 (ofBytes 256 neutral) = neutral ∧ witnessManifest.drop (witnessManifest.length - 64) = neutral ++ List.replicate 32 0 := by decide +kernel
theorem keyed_signature : keyed.voice.signatureOk witnessManifest = true := by
  unfold Lane.signatureOk
  rw [keyed_key]
  dsimp only
  rw [keyed_bytes.1, keyed_bytes.2]
  exact neutral_verifies _
theorem keyed_manifest : keyed.voice.manifestFail witnessManifest = none := by
  unfold Lane.manifestFail
  simp [keyed_ok, keyed_fits, keyed_signature]

theorem ofBytes_toBytes4 (x : Word) : ofBytes 32 (toBytes 4 x) = x := by
  unfold ofBytes toBytes natOfBytes
  simp only [show List.range 4 = [0,1,2,3] by decide, List.map, List.foldl, field]
  apply BitVec.eq_of_toNat_eq
  simp [BitVec.extractLsb'_toNat, Nat.shiftRight_eq_div_pow]
  have := x.isLt
  omega
/-- A manifest of one block and no section, with a BLOCK_CRC. -/
def crcManifest (x : Word) : Bytes := List.replicate 17 0 ++ ([1] ++ List.replicate 350 0) ++ toBytes 4 x
theorem crcManifest_blocks (x : Word) : manBlocks (crcManifest x) = 1 ∧ manCrc (crcManifest x) 0 = x := by
  constructor
  · rfl
  · unfold manCrc manSects getBE
    rw [show slice (crcManifest x) (0x170 + 80 * ((crcManifest x).getD 0x12 0).toNat + 4 * 0) 4 = toBytes 4 x by rfl]
    exact ofBytes_toBytes4 x

def someBlock : Bytes := List.replicate 65536 0
def owner : Source := .client 7

theorem witness_StagingFollowsItsOwner :
    (let s : State := { inMode .vital with stg := { State.reset.stg with state := .receiving } }
     s.coordUp = true ∧ s.stg.state = .receiving ∧ s.stg.manifest = [])
    ∧ (keyed.coordUp = true ∧ keyed.stg.state = .empty ∧ keyed.voice.manifestFail witnessManifest = none)
    ∧ (let s : State := { inMode .vital with
          stg := { State.reset.stg with state := .receiving, owner := some owner, manifest := crcManifest (crc32 someBlock) } }
       s.coordUp = true ∧ s.stg.state = .receiving ∧ s.stg.owner = some owner ∧ (0 : BitVec 9).toNat < manBlocks s.stg.manifest
         ∧ someBlock.length = 65536 ∧ crc32 someBlock = manCrc s.stg.manifest (0 : BitVec 9).toNat)
    ∧ (let s : State := { inMode .vital with stg := { State.reset.stg with state := .receiving, owner := some owner } }
       s.coordUp = true ∧ s.stg.state = .receiving ∧ s.stg.owner = some owner ∧ s.stg.complete = true ∧ s.stg.badSection = none
         ∧ s.stg.copyOpen = false ∧ s.stg.owner.isSome = true ∧ s.stg.owner ≠ some .service ∧ s.stg.state ≠ .empty ∧ s.stg.manifest ≠ [1]) := by
  refine ⟨by decide, ⟨by decide, by decide, keyed_manifest⟩, ⟨by decide, rfl, rfl, ?_, List.length_replicate, ?_⟩, by decide⟩
  · have := (crcManifest_blocks (crc32 someBlock)).1
    simp [this]
  · exact ((crcManifest_blocks (crc32 someBlock)).2).symm

/-- Copying the second of two blocks; and an activation that a participant has in hand. -/
def copying (next : Nat) : State :=
  { inMode .vital with stg := { State.reset.stg with state := .inUse, use := .copy, copyOpen := true, copyNext := next, copyCnt := 2 } }
def act (p : ActPhase) (kind : BitVec 2) : State :=
  { inMode .vital with stg := { State.reset.stg with state := .inUse, use := .activation, phase := p, kind := kind, digest := 5, round := 9000 } }

theorem witness_CopiesAndParticipants :
    ((copying 0).coordUp = true ∧ (copying 0).stg.copyOpen = true ∧ (copying 0).stg.use = .copy ∧ (copying 0).stg.copyNext + 1 < (copying 0).stg.copyCnt)
    ∧ (let s : State := { inMode .vital with stg := { State.reset.stg with state := .staged } }
       s.coordUp = true ∧ s.net.node ∈ [s.net.node] ∧ s.stg.phase = .none ∧ s.stg.state = .staged ∧ s.sys.mode.runs = true)
    ∧ ((act .ready 3).coordUp = true ∧ (act .ready 3).stg.phase = .ready ∧ (act .ready 3).stg.digest = 5 ∧ (act .ready 3).stg.use = .activation) := by
  refine ⟨by decide, ⟨by decide, List.mem_singleton.mpr rfl, rfl, rfl, rfl⟩, by decide⟩

/-- A witness with an activation of node 3 in hand. -/
def open_ : State := { inMode .witness with stg := { State.reset.stg with digest := 5, round := 9000, parts := [3] } }
/-- A station image's KIND in an otherwise empty manifest. -/
def kindManifest (k : Byte) : Bytes := List.replicate 6 0 ++ [k]

theorem witness_ActivationsAreDecided :
    ((inMode .witness).sys.mode = .witness ∧ (inMode .witness).coordUp = true ∧ (inMode .witness).stg.parts = [] ∧ (inMode .witness).stg.digest ≠ 5
      ∧ (inMode .witness).net.node ∉ ([] : List NodeId))
    ∧ (open_.witnessOpen = true ∧ open_.stg.digest = 5 ∧ open_.stg.parts = [3] ∧ open_.stg.phase = .none
      ∧ open_.now.round.toNat + 128 < open_.stg.round.toNat ∧ open_.stg.readys = [] ∧ 3 ∈ open_.stg.parts)
    ∧ (let s : State := { inMode .vital with
          stg := { State.reset.stg with state := .staged, manifest := kindManifest 4 }, sys := { (inMode .vital).sys with role := .lead } }
       s.coordUp = true ∧ s.sys.role = .lead ∧ s.stg.state = .staged ∧ manKind s.stg.manifest = 4
         ∧ 4096 ≤ (4096 : BitVec 40).toNat - s.now.round.toNat ∧ (4096 : BitVec 40).toNat - s.now.round.toNat ≤ 8437500 ∧ s.stg.busy = false)
    ∧ (let s : State := { inMode .ready with stg := { State.reset.stg with state := .staged, manifest := kindManifest 2 } }
       s.coordUp = true ∧ s.sys.mode.runs = false ∧ s.stg.state = .staged ∧ manKind s.stg.manifest = 2 ∧ s.stg.busy = false) := by
  refine ⟨⟨rfl, rfl, rfl, by decide, List.not_mem_nil⟩, by decide, by decide, by decide⟩

theorem witness_ActivationsTakeEffect :
    ((act .commit 0).coordUp = true ∧ (act .commit 0).stg.phase = .commit ∧ (act .commit 0).stg.local_ = false ∧ (act .commit 0).stg.kind = 0
      ∧ (act .commit 0).sys.mode.runs = true)
    ∧ (let s : State := { act .commit 1 with
          stg := { (act .commit 1).stg with service := .passed, round := 10 }, take := { State.reset.take with point := .deadline, nCur := 10 } }
       s.take.point = .deadline ∧ s.sys.mode.runs = true ∧ s.serviceDue = true ∧ s.stagedImage = some { manifest := [], blocks := [] }
         ∧ s.stg.service = .passed ∧ liveRoutes s.voice.vit = [])
    ∧ (let s : State := { act .rolling 0 with
          stg := { (act .rolling 0).stg with vitalTakes := 100 }, sys := { (inMode .vital).sys with role := .lead } }
       s.coordUp = true ∧ s.stg.phase = .rolling ∧ s.sys.role = .lead ∧ s.sys.mode.runs = true ∧ 100 ≤ s.stg.vitalTakes ∧ s.pair.resigned = false)
    ∧ (let s : State := { act .rolling 0 with sys := { (inMode .witness).sys with mode := .witness } }
       s.sys.mode = .witness ∧ s.coordUp = true ∧ s.stg.phase = .rolling ∧ s.wrap.running = false) := by decide +kernel

/-! ### Witnesses: the coordinator -/

/-- A started take in which each lane holds a mailbox copy in mailbox 0. -/
def boxed (a b : Word) : State :=
  let box := fun (w : Word) => ({ words := [w], len := 8, full := true, cmp := none } : MbxCopy)
  let s := all_ (at_ .vital .started) fun l => { l with mbx := l.mbx.set 0 (box a) }
  { s with laneB := { s.laneB with mbx := s.laneB.mbx.set 0 (box b) } }

theorem witness_BroadcastMailboxes :
    ((inMode .vital).coordUp = true ∧ (inMode .vital).sys.mode ≠ .cut ∧ (inMode .vital).sys.mode ≠ .boot
      ∧ (inMode .vital).boxFull (3 : BitVec 2).toNat = false ∧ 8 ≤ (8 : BitVec 5).toNat ∧ (16 : BitVec 5).toNat ≤ 16
      ∧ ((inMode .vital).lane .a).stat.domainOn = true ∧ ((inMode .vital).lane .a).mbx.length = 4)
    ∧ ((inMode .vital).supplied = true ∧ (1 : BitVec 3) ≠ 0 ∧ (1 : BitVec 3) ≠ 7)
    ∧ ((boxed 1 1).coordUp = true ∧ (boxed 1 1).boxFull (0 : BitVec 2).toNat = true)
    ∧ ((boxed 1 1).take.point = .started ∧ (∀ l : LaneId, ((boxed 1 1).lane l).active = true ∧ ((boxed 1 1).lane l).mbx = (boxed 1 1).laneA.mbx)
      ∧ (((boxed 1 1).lane .a).copyOf 0).full = true)
    ∧ ((boxed 1 2).take.point = .started ∧ (∀ l : LaneId, ((boxed 1 2).lane l).active = true) ∧ ((boxed 1 2).laneA.copyOf 0).full = true
      ∧ copyKey ((boxed 1 2).laneA.copyOf 0) ≠ copyKey ((boxed 1 2).laneB.copyOf 0) ∧ ∀ k, 1 ≤ k → k < 4 → (boxed 1 2).boxFull k = false) := by
  refine ⟨by decide, by decide, by decide, ⟨rfl, fun l => ?_, rfl⟩, rfl, fun l => ?_, rfl, by decide, by decide⟩
  · cases l <;> exact ⟨rfl, rfl⟩
  · cases l <;> rfl

theorem witness_LaneMailboxes :
    ((inMode .vital).supplied = true ∧ ((inMode .vital).lane .c).stat.domainOn = true ∧ 8 ≤ (List.replicate 16 (0 : Word)).length
      ∧ (List.replicate 16 (0 : Word)).length ≤ 16 ∧ ((inMode .vital).lane .c).boxes.length = 4
      ∧ (((inMode .vital).lane .c).boxOf (3 : BitVec 2).toNat).full = false)
    ∧ (let s := all_ (inMode .vital) fun l => { l with boxes := l.boxes.set 3 { words := [], len := 8, full := true } }
       s.coordUp = true ∧ ((s.lane .c).boxOf (3 : BitVec 2).toNat).full = true ∧ (s.lane .c).unsent = [] ∧ (s.lane .c).boxes.length = 4) := by
  decide

theorem witness_CoordinatorRestarts :
    ((inMode .vital).coordUp = true ∧ (inMode .vital).locks[31]? = some none)
    ∧ (let s := all_ { inMode .vital with take := { State.reset.take with num := 63 } } fun l =>
          { l with stat := { l.stat with wokenAt := some 0xFFFFFFFF, state := .shutdown } }
       (s.lane .b).stat.wokenAt = some 0xFFFFFFFF ∧ (s.lane .b).stat.state = .shutdown ∧ 64 ≤ (s.take.num - 0xFFFFFFFF).toNat
         ∧ s.pmc.counters[239]?.isSome = true) := by decide

theorem witness_LocksAnswerTheirMaster :
    let s : State := { inMode .vital with locks := State.reset.locks.set 31 (some 6) }
    s.coordUp = true ∧ (6 : BitVec 3) ≠ 7 ∧ s.locks.getD (0 : BitVec 5).toNat none = none ∧ s.locks.getD (31 : BitVec 5).toNat none = some 6
      ∧ (6 : BitVec 3) ≠ 0 ∧ (6 : Word) = (6 : BitVec 3).zeroExtend 32 ∧ s.locks.getD (31 : BitVec 5).toNat none ≠ some 0 := by decide

/-! ### Witnesses: wrap test, counters, registers -/

/-- A lane wrap of lane B at a slice. -/
def wrapping (n : Nat) : State :=
  let s := all_ (inMode .vital) fun l => { l with stat := { l.stat with state := .shutdown } }
  { s with wrap := { State.reset.wrap with running := true, why := .lane, lane := .b, slice := n } }
/-- A slice that runs its patterns and comes to its signature. -/
def goodRun (n : Nat) : SliceRun :=
  { patterns := Config.terminalCount n, sig := Config.refSignature n, dataCorr := 0, chkCorr := 0, uncorr := false }

theorem witness_WrapTest :
    ((wrapping 61).wrap.running = true ∧ (wrapping 61).wrap.why = .lane ∧ (wrapping 61).wrap.slice < 62)
    ∧ ((wrapping 63).wrap.running = true ∧ (wrapping 63).wrap.why = .lane ∧ (wrapping 63).wrap.slice = 63 ∧ slicePasses 63 (goodRun 63) = true
      ∧ ((wrapping 63).lane (wrapping 63).wrap.lane).wrap.failing = [] ∧ ((wrapping 63).lane (wrapping 63).wrap.lane).stat.held = false
      ∧ ((wrapping 63).lane (wrapping 63).wrap.lane).stat.state = .shutdown) := by
  refine ⟨by decide, rfl, rfl, rfl, ?_, rfl, rfl, rfl⟩
  simp [slicePasses, goodRun]

/-- The counters stand still; counter 239 is selected. -/
def frozen (frz : Bool) : State :=
  { inMode .vital with pmc := { State.reset.pmc with stopped := true, frozen := frz, sel := 239 } }

theorem witness_CountersFreezeAndAreRead :
    ((frozen false).coordUp = true ∧ bit (2 : Word) 3 = false ∧ (frozen false).pmc.stopped = true ∧ (frozen false).pmc.frozen = false)
    ∧ ((inMode .vital).coordUp = true ∧ (inMode .vital).pmc.stopped = false ∧ (inMode .vital).pmc.onWrap = false)
    ∧ ((frozen false).selected = some ((frozen false).pmc.sel.toNat, { cfg := 0, val := 0 })
      ∧ badConfig (frozen false).pmc.sel.toNat 0x84 = false) := by decide

theorem witness_ClearAndPresetNeedFrozen :
    ((frozen true).coordUp = true ∧ (frozen true).pmc.frozen = true
      ∧ (frozen true).selected = some ((frozen true).pmc.sel.toNat, { cfg := 0, val := 0 }))
    ∧ ((frozen false).coordUp = true ∧ (frozen false).pmc.frozen = false ∧ (frozen false).pmc.stopped = true) := by decide

theorem witness_RegistersAnswerWrites :
    ((inMode .vital).coordUp = true ∧ (field (0x05A0059F : Word) 0 11).toNat ≤ 1439 ∧ 1 ≤ (field (0x05A0059F : Word) 16 11).toNat
      ∧ (field (0x05A0059F : Word) 16 11).toNat ≤ 1440 ∧ 1439 < (field (0x05A005A0 : Word) 0 11).toNat
      ∧ (field (0x0000059F : Word) 16 11).toNat = 0 ∧ 1440 < (field (0x05A1059F : Word) 16 11).toNat)
    ∧ ((inMode .vital).supplied = true ∧ (inMode .vital).mbx.restarting = false ∧ (6 : BitVec 3) ≠ 7 ∧ (2 : BitVec 4) ≠ 4
      ∧ field (0x40060032 : Word) 0 2 ≠ 0#2) := by decide

/-! ### Witnesses: ports -/

def someCert : Cert := { issuer := 1, notBefore := 0, notAfter := 10, role := some .authority, digest := 7 }
def hello (tls13 : Bool) : TlsHello :=
  { tls13 := tls13, suite := .aes128gcmSha256, group := .x25519, scheme := .ed25519, resumes := false, cert := some someCert }
def session (sid : Nat) (r : ClientRole) (d : BitVec 48) : TlsSession := { sid := sid, cp2 := false, role := r, digest := d }

/-- A lead in service with a device certificate and clients of each role. -/
def leading : State :=
  { inMode .vital with
    sys := { (inMode .vital).sys with role := .lead }
    pwr := { State.reset.pwr with devKey := true, devCert := some { someCert with role := none, digest := 9 } }
    port := { State.reset.port with sessions := [session 1 .control 7, session 2 .maint 8, session 3 .authority 9] } }

theorem witness_ClientSessionsAndBatches :
    (leading.coordUp = true ∧ leading.pwr.intruded = false ∧ leading.pwr.devKey = true ∧ helloOk (hello true) = true
      ∧ (hello true).cert = some someCert ∧ leading.certRole someCert = some .authority
      ∧ (leading.port.sessions.filter fun x => decide (x.cp2 = false)).length < 4 ∧ session 1 .control 7 ∈ leading.port.sessions)
    ∧ helloOk (hello false) = false
    ∧ (leading.session 1 = some (session 1 .control 7) ∧ (session 1 .control 7).role ≠ .maint ∧ leading.orders = true
      ∧ field (0x2000 : BitVec 16) 13 3 ≠ 0#3 ∧ leading.repeated 7 0 = false)
    ∧ leading.session 2 = some (session 2 .maint 8) := by decide

/-- A proposal of the client 7: a force. -/
def proposal : Proposal := { sid := some 1, client := 7, msgId := 4, msg := { type := 0x10, msgId := 4, args := [] }, digest := 6 }
def proposed : State := { leading with port := { leading.port with proposals := [proposal] } }
/-- An empty message of an authorised type that takes no arguments. -/
def noArgs : CtlMsg := { type := 0x411, msgId := 1, args := [] }

theorem witness_TwoClientsAuthorise :
    (leading.session 3 = some (session 3 .authority 9) ∧ (session 3 .authority 9).role = .authority ∧ proposable noArgs = true ∧ leading.orders = true
      ∧ leading.port.proposals.length < 8)
    ∧ (proposed.session 3 = some (session 3 .authority 9) ∧ proposed.proposal proposal.digest = some proposal ∧ isOrdered proposal.msg.type = true
      ∧ proposed.orders = true ∧ proposed.repeated proposal.client proposal.msg.msgId = false ∧ proposed.port.auths = []
      ∧ proposal.client ≠ (session 3 .authority 9).digest)
    ∧ (leading.orders = true ∧ field (0x2000 : BitVec 16) 13 3 ≠ 0#3 ∧ leading.repeated 7 0 = false ∧ (inMode .vital).orders = false) := by decide

theorem witness_OrderListsAndTime :
    (let s : State := { leading with take := { State.reset.take with point := .rushed } }
     s.orders = true ∧ s.take.point = .rushed ∧ s.port.listTake ≠ some (s.take.num + 1) ∧ s.port.auths = [] ∧ s.port.items = [] ∧ s.port.locals = [])
    ∧ (let s : State := { inMode .vital with
          sys := { (inMode .vital).sys with role := .second }, pair := { State.reset.pair with usable := true } }
       s.coordUp = true ∧ s.takesRun = true ∧ s.sys.role = .second ∧ s.pair.usable = true ∧ s.port.locals = [])
    ∧ (leading.asks 3 = true ∧ leading.asks 0 = true)
    ∧ (let s : State := { inMode .vital with port := { State.reset.port with ptp := { State.reset.port.ptp with agree := 15 } } }
       s.coordUp = true ∧ s.port.ptp.rankB = none ∧ s.port.ptp.agree = 15 ∧ s.port.ptp.offset = 0 ∧ 1 ≤ s.port.ptp.agree
         ∧ s.port.ptp.offset + 100000 < (100001 : Int)) := by decide

end Sys2Proof.Tests
end

section
/-! SUPPORT. The operations that take a lane out of the vote and let it back: what each says of the lanes, the mode and the locks,
and, from them, the statement about LOCKSTEP_BREAK, DEBUG_REQUEST, DEBUG_DETACH and LANE_RECOVERY_READY (R231 to R252, R557). -/

namespace Sys2Proof.Machine

open Sys2Proof

/-! ### The cores of a lane

Two conditions of a lane that agree after `halt` differ in their cores alone, so `congrArg` carries every other field over. -/

@[simp] theorem LaneStat.halt_state (t : LaneStat) : t.halt.state = t.state := rfl
@[simp] theorem LaneStat.halt_cause (t : LaneStat) : t.halt.cause = t.cause := rfl
@[simp] theorem LaneStat.halt_exclCnt (t : LaneStat) : t.halt.exclCnt = t.exclCnt := rfl
@[simp] theorem LaneStat.halt_exclTakes (t : LaneStat) : t.halt.exclTakes = t.exclTakes := rfl
@[simp] theorem LaneStat.halt_dbg (t : LaneStat) : t.halt.dbg = t.dbg := rfl

/-- A token step of the pair changes the outstanding steps alone. -/
theorem LaneStat.pairStep_eq (t : LaneStat) (x : TokenStep) : ∃ steps, t.pairStep x = { t with steps := steps } := by
  unfold LaneStat.pairStep
  dsimp only
  split
  · exact ⟨_, rfl⟩
  · exact ⟨_, rfl⟩

/-- A pair that resumes runs, and nothing but its token steps tells what it did. -/
theorem LaneStat.resume_eq (t : LaneStat) (n : Nat) :
    ∃ steps, t.resume n = { t with running := true, waiting := false, steps := steps } := by
  unfold LaneStat.resume
  obtain ⟨_, h1⟩ := LaneStat.pairStep_eq { t with running := true, waiting := false } (Config.tokenStep n)
  rw [h1]
  obtain ⟨_, h2⟩ := LaneStat.pairStep_eq _ (Config.tokenStep (n + 1))
  rw [h2]
  obtain ⟨steps, h3⟩ := LaneStat.pairStep_eq _ (Config.tokenStep (n + 2))
  exact ⟨steps, h3⟩

@[simp] theorem Lane.onStat_stat (x : Lane) (f : LaneStat → LaneStat) : (x.onStat f).stat = f x.stat := rfl
@[simp] theorem Lane.onStat_vit (x : Lane) (f : LaneStat → LaneStat) : (x.onStat f).vit = x.vit := rfl
@[simp] theorem Lane.onStat_newest (x : Lane) (f : LaneStat → LaneStat) : (x.onStat f).newest = x.newest := rfl

/-! ### Locks (R557) -/

theorem State.noticed_releaseLocks (s : State) (m : BitVec 3) :
    State.noticed { s with locks := s.locks.map fun h => if h = some m then none else h } (s.releaseLocks m) := by
  unfold State.releaseLocks
  split
  · exact State.noticed_raise _ _ _
  · rename_i hm
    have keeps : s.locks.map (fun h => if h = some m then none else h) = s.locks := by
      refine (List.map_congr_left fun h hh => if_neg ?_).trans s.locks.map_id
      rintro rfl
      exact hm (List.contains_iff_mem.mpr hh)
    exact State.noticed_of_eq (by rw [keeps])

@[simp] theorem State.releaseLocks_lane (s : State) (m : BitVec 3) (l : LaneId) : (s.releaseLocks m).lane l = s.lane l := by
  rw [State.lane_of_noticed (s.noticed_releaseLocks m), State.lane_with_locks]

@[simp] theorem State.releaseLocks_take (s : State) (m : BitVec 3) : (s.releaseLocks m).take = s.take := by
  rw [State.take_of_noticed (s.noticed_releaseLocks m)]

@[simp] theorem State.releaseLocks_sys (s : State) (m : BitVec 3) : (s.releaseLocks m).sys = s.sys := by
  rw [State.sys_of_noticed (s.noticed_releaseLocks m)]

@[simp] theorem State.releaseLocks_net (s : State) (m : BitVec 3) : (s.releaseLocks m).net = s.net := by
  rw [State.net_of_noticed (s.noticed_releaseLocks m)]

/-- The master holds no lock any more. -/
theorem State.releaseLocks_released (s : State) (m : BitVec 3) : ∀ h ∈ (s.releaseLocks m).locks, h ≠ some m := by
  rw [State.locks_of_noticed (s.noticed_releaseLocks m)]
  intro h hh
  obtain ⟨x, -, rfl⟩ := List.mem_map.mp hh
  split <;> simp [*]

/-! ### Modes (R11, R470) -/

/-- Beside its notices a change of mode touches the mode, the enrolment and the MODE mirror alone. -/
theorem State.noticed_setMode (s : State) (m : Mode) :
    ∃ (p : PwrSt) (r : MirrorSt), State.noticed { s with sys := { s.sys with mode := m }, pwr := p, mirror := r } (s.setMode m) := by
  unfold State.setMode
  split
  · rename_i h
    subst h
    exact ⟨s.pwr, s.mirror, s.noticed_refl⟩
  · dsimp only
    split
    · exact ⟨_, _, State.noticed_record _ _ _ _⟩
    · obtain ⟨f, e, p, r, h⟩ := State.noticed_record _ _ _ _
      exact ⟨_, _, f, e, p, r, by rw [h]⟩

@[simp] theorem State.setMode_lane (s : State) (m : Mode) (l : LaneId) : (s.setMode m).lane l = s.lane l := by
  obtain ⟨p, r, h⟩ := s.noticed_setMode m
  rw [State.lane_of_noticed h]
  exact State.lane_congr rfl rfl rfl l

@[simp] theorem State.setMode_laneA (s : State) (m : Mode) : (s.setMode m).laneA = s.laneA := s.setMode_lane m .a
@[simp] theorem State.setMode_laneB (s : State) (m : Mode) : (s.setMode m).laneB = s.laneB := s.setMode_lane m .b
@[simp] theorem State.setMode_laneC (s : State) (m : Mode) : (s.setMode m).laneC = s.laneC := s.setMode_lane m .c

theorem State.setMode_mode (s : State) (m : Mode) : (s.setMode m).sys.mode = m := by
  obtain ⟨p, r, h⟩ := s.noticed_setMode m
  rw [State.sys_of_noticed h]

theorem State.noticed_foldl {α : Type} (f : State → α → State) (hf : ∀ (s : State) (x : α), s.noticed (f s x)) (xs : List α) :
    ∀ s : State, s.noticed (xs.foldl f s) := by
  induction xs with
  | nil => exact State.noticed_refl
  | cons x xs ih => exact fun s => State.noticed_trans (hf s x) (ih _)

/-- An abandoned wrap test changes its own state and the pair's alone, beside its notices. -/
theorem State.noticed_wrapAbandon (s : State) :
    ∃ (w : WrapSt) (p : PairSt), State.noticed { s with wrap := w, pair := p } s.wrapAbandon := by
  unfold State.wrapAbandon
  split
  · have records := State.noticed_foldl (fun (s : State) (l : LaneId) => s.record 5 0x2B [BitVec.ofNat 8 l.num, 3])
      fun s l => s.noticed_record _ _ _
    exact ⟨_, _, State.noticed_trans (records _ _) (State.noticed_trans (State.noticed_raise _ _ _) (State.noticed_raiseIf _ _ _ _))⟩
  · exact ⟨s.wrap, s.pair, s.noticed_refl⟩

@[simp] theorem State.wrapAbandon_lane (s : State) (l : LaneId) : s.wrapAbandon.lane l = s.lane l := by
  obtain ⟨w, p, h⟩ := s.noticed_wrapAbandon
  rw [State.lane_of_noticed h]
  cases l <;> rfl

@[simp] theorem State.wrapAbandon_laneA (s : State) : s.wrapAbandon.laneA = s.laneA := s.wrapAbandon_lane .a
@[simp] theorem State.wrapAbandon_laneB (s : State) : s.wrapAbandon.laneB = s.laneB := s.wrapAbandon_lane .b
@[simp] theorem State.wrapAbandon_laneC (s : State) : s.wrapAbandon.laneC = s.laneC := s.wrapAbandon_lane .c

@[simp] theorem State.wrapAbandon_sys (s : State) : s.wrapAbandon.sys = s.sys := by
  obtain ⟨w, p, h⟩ := s.noticed_wrapAbandon
  rw [State.sys_of_noticed h]

/-- Entry to CUT stops the cores of the lanes and changes nothing else of their condition. -/
theorem State.enterCut_halt (s : State) (rule : Nat) (lane : Byte) (k : LaneId) :
    ((s.enterCut rule lane).lane k).stat.halt = (s.lane k).stat.halt := by
  unfold State.enterCut
  split
  · dsimp only
    split <;> cases k <;> simp [State.onLanes, LaneStat.halt]
  · rfl

theorem State.enterCut_mode (s : State) (rule : Nat) (lane : Byte) (h : s.sys.mode.runs = true) :
    (s.enterCut rule lane).sys.mode = .cut := by
  unfold State.enterCut
  rw [if_pos (.inl h)]
  dsimp only
  split <;> simp [State.setMode_mode]

/-- Settling the mode touches the lanes only where it enters CUT. -/
theorem State.settleMode_halt (s : State) (rule : Nat) (lane : Byte) (k : LaneId) :
    ((s.settleMode rule lane).lane k).stat.halt = (s.lane k).stat.halt := by
  unfold State.settleMode
  dsimp only
  split
  · split
    · exact s.enterCut_halt _ _ _
    · split
      · simp
      · split <;> simp
  · split
    · exact s.enterCut_halt _ _ _
    · rfl

theorem State.settleMode_vital_of_two (s : State) (rule : Nat) (lane : Byte) (hm : s.sys.mode = .vital) (hn : s.activeCount = 2) :
    (s.settleMode rule lane).sys.mode = .degraded := by
  simp [State.settleMode, hm, hn, Mode.runs, State.setMode_mode]

theorem State.settleMode_of_lt_two (s : State) (rule : Nat) (lane : Byte) (hm : s.sys.mode.runs = true) (hn : s.activeCount < 2) :
    (s.settleMode rule lane).sys.mode = .cut := by
  simp [State.settleMode, hm, hn, State.enterCut_mode]

/-! ### The number of ACTIVE lanes -/

theorem State.activeCount_eq (s : State) :
    s.activeCount = s.laneA.active.toNat + s.laneB.active.toNat + s.laneC.active.toNat := by
  unfold State.activeCount State.lanesWith LaneId.all
  cases ha : s.laneA.active <;> cases hb : s.laneB.active <;> cases hc : s.laneC.active <;> simp [ha, hb, hc]

/-- Where one lane stops voting and the others stay as they are, one lane fewer votes. -/
theorem State.activeCount_of_leaves {s t : State} {l : LaneId} (hs : (s.lane l).active = true) (ht : (t.lane l).active = false)
    (hk : ∀ k, k ≠ l → (t.lane k).active = (s.lane k).active) : s.activeCount = t.activeCount + 1 := by
  have ha := hk .a
  have hb := hk .b
  have hc := hk .c
  rw [State.activeCount_eq, State.activeCount_eq]
  cases l with
  | a => simp_all; omega
  | b => simp_all; omega
  | c => simp_all

/-! ### Exclusion (R235) -/

theorem State.setLaneState_lane (s : State) (l : LaneId) (n : LaneState) :
    (s.setLaneState l n).lane l = (s.lane l).onStat fun t => { t with state := n } := by
  unfold State.setLaneState
  dsimp only
  split
  · rename_i h
    subst h
    rfl
  · simp

theorem State.setLaneState_lane_of_ne (s : State) {k l : LaneId} (n : LaneState) (h : k ≠ l) :
    (s.setLaneState l n).lane k = s.lane k := by
  unfold State.setLaneState
  dsimp only
  split
  · rfl
  · simp [State.lane_onLane_of_ne _ _ h]

@[simp] theorem State.setLaneState_sys (s : State) (l : LaneId) (n : LaneState) : (s.setLaneState l n).sys = s.sys := by
  unfold State.setLaneState
  dsimp only
  split
  · rfl
  · simp

theorem State.laneLeaves_stat (s : State) (l : LaneId) :
    ((s.laneLeaves l).lane l).stat = { (s.lane l).stat.halt with ready := false, matchCnt := 0, joins := false } := by
  simp [State.laneLeaves, LaneStat.halt]

theorem State.laneLeaves_lane_of_ne (s : State) {k l : LaneId} (h : k ≠ l) : (s.laneLeaves l).lane k = s.lane k := by
  simp [State.laneLeaves, State.lane_onLane_of_ne _ _ h]

@[simp] theorem State.laneLeaves_sys (s : State) (l : LaneId) : (s.laneLeaves l).sys = s.sys := by
  simp [State.laneLeaves]

@[simp] theorem State.laneLeaves_take (s : State) (l : LaneId) : (s.laneLeaves l).take = s.take := by
  simp [State.laneLeaves]

/-- The condition of a lane that is dropped from the vote. -/
theorem State.dropLane_stat (s : State) (l : LaneId) (cause : Byte) (h : (s.lane l).evaluates = true) :
    ((s.dropLane l cause).lane l).stat =
      { (s.lane l).stat.halt with
        ready := false, matchCnt := 0, joins := false, state := .excluded, cause := cause, causeTake := s.take.num
        exclCnt := satInc (s.lane l).stat.exclCnt
        exclTakes := if cause = 0x08 then (s.lane l).stat.exclTakes else (s.lane l).stat.exclTakes ++ [s.take.num]
        failCnt := if (s.lane l).stat.state = .recovering ∧ cause ≠ 0x08 then satInc (s.lane l).stat.failCnt else (s.lane l).stat.failCnt
        reload := (s.lane l).stat.reload || decide (cause = 0x05 ∨ cause = 0x06), resetReq := false } := by
  simp [State.dropLane, h, State.setLaneState_lane, State.laneLeaves_stat, Lane.onStat, LaneStat.halt]

theorem State.dropLane_lane_of_ne (s : State) {k l : LaneId} (cause : Byte) (h : k ≠ l) : (s.dropLane l cause).lane k = s.lane k := by
  unfold State.dropLane
  dsimp only
  split
  · simp [State.setLaneState_lane_of_ne _ _ h, State.lane_onLane_of_ne _ _ h, State.laneLeaves_lane_of_ne _ h]
  · rfl

@[simp] theorem State.dropLane_sys (s : State) (l : LaneId) (cause : Byte) : (s.dropLane l cause).sys = s.sys := by
  unfold State.dropLane
  dsimp only
  split
  · simp
  · rfl

theorem Lane.evaluates_of_active {x : Lane} (h : x.active = true) : x.evaluates = true := by
  simp_all [Lane.active, Lane.evaluates]

theorem State.activeCount_dropLane (s : State) (l : LaneId) (cause : Byte) (h : (s.lane l).active = true) :
    s.activeCount = (s.dropLane l cause).activeCount + 1 := by
  refine State.activeCount_of_leaves h ?_ fun k hk => by rw [State.dropLane_lane_of_ne _ _ hk]
  simp [Lane.active, State.dropLane_stat s l cause (Lane.evaluates_of_active h)]

/-- An exclusion leaves every lane, its cores apart, as the drop does: the mode that follows stops cores at most. -/
theorem State.excludeLane_halt (s : State) (l k : LaneId) (cause : Byte) (rule : Nat) :
    ((s.excludeLane l cause rule).lane k).stat.halt = ((s.dropLane l cause).lane k).stat.halt :=
  State.settleMode_halt _ _ _ _

theorem State.excludeLane_state_of_ne (s : State) {k l : LaneId} (cause : Byte) (rule : Nat) (h : k ≠ l) :
    ((s.excludeLane l cause rule).lane k).stat.state = (s.lane k).stat.state := by
  rw [← State.dropLane_lane_of_ne s cause h]
  simpa using congrArg LaneStat.state (s.excludeLane_halt l k cause rule)

/-- Two of three ACTIVE lanes go on in DEGRADED (R11). -/
theorem State.excludeLane_degraded (s : State) (l : LaneId) (cause : Byte) (rule : Nat) (hm : s.sys.mode = .vital)
    (ha : (s.lane l).active = true) (hn : s.activeCount = 3) : (s.excludeLane l cause rule).sys.mode = .degraded := by
  have fewer := s.activeCount_dropLane l cause ha
  exact State.settleMode_vital_of_two _ _ _ (by simpa using hm) (by omega)

/-- One of two ACTIVE lanes is too few: CUT (R11). -/
theorem State.excludeLane_cut (s : State) (l : LaneId) (cause : Byte) (rule : Nat) (hm : s.sys.mode = .degraded)
    (ha : (s.lane l).active = true) (hn : s.activeCount = 2) : (s.excludeLane l cause rule).sys.mode = .cut := by
  have fewer := s.activeCount_dropLane l cause ha
  exact State.settleMode_of_lt_two _ _ _ (by simp [hm, Mode.runs]) (by omega)

/-! ### A break of the lockstep (R248) -/

theorem State.breakLane_evaluates (s : State) (l : LaneId) (cause : Byte) (rule : Nat) (h : (s.lane l).evaluates = true) :
    s.breakLane l cause rule = (s.raise .lane 4).excludeLane l cause rule := by
  simp [State.breakLane, State.raiseIf, Lane.lockstep, h]

theorem exec_lockstepBreak (s : State) (l : LaneId) (h : (s.lane l).evaluates = true) :
    exec (.lockstepBreak l) s = .next ((s.raise .lane 4).excludeLane l 0x07 243) := by
  show execLockstepBreak l s = _
  rw [execLockstepBreak, if_pos (by simp [Lane.lockstep, h]), State.breakLane_evaluates _ _ _ _ h]

theorem lockstepBreak_excludes (s : State) (l : LaneId) (h : (s.lane l).evaluates = true) :
    ∃ t, exec (.lockstepBreak l) s = .next t
      ∧ (t.lane l).stat.state = .excluded ∧ (t.lane l).stat.cause = 0x07 ∧ (t.lane l).stat.exclCnt = satInc (s.lane l).stat.exclCnt
      ∧ (∀ k : LaneId, k ≠ l → (t.lane k).stat.state = (s.lane k).stat.state)
      ∧ (s.sys.mode = .vital → (s.lane l).active = true → s.activeCount = 3 → t.sys.mode = .degraded)
      ∧ (s.sys.mode = .degraded → (s.lane l).active = true → s.activeCount = 2 → t.sys.mode = .cut) := by
  have raised : (s.raise .lane 4).activeCount = s.activeCount := by simp [State.activeCount_eq]
  have stat := (s.raise .lane 4).excludeLane_halt l l 0x07 243
  rw [State.dropLane_stat _ _ _ (by simpa using h)] at stat
  refine ⟨_, exec_lockstepBreak s l h, congrArg LaneStat.state stat, congrArg LaneStat.cause stat, ?_, fun k hk => ?_,
    fun hm ha hn => ?_, fun hm ha hn => ?_⟩
  · simpa using congrArg LaneStat.exclCnt stat
  · simpa using (s.raise .lane 4).excludeLane_state_of_ne 0x07 243 hk
  · exact State.excludeLane_degraded _ _ _ _ (by simpa using hm) (by simpa using ha) (by rw [raised, hn])
  · exact State.excludeLane_cut _ _ _ _ (by simpa using hm) (by simpa using ha) (by rw [raised, hn])

/-! ### Debuggers (R249 to R252) -/

theorem debugRequest_refused (s : State) (l : LaneId) (h : s.sys.mode ≠ .commissioning) :
    ∃ t, exec (.debugRequest l) s = .next t
      ∧ State.noticed { s with vote := { s.vote with dbgRefused := satInc s.vote.dbgRefused } } t := by
  have arm : exec (.debugRequest l) s = execDebugRequest l s := rfl
  rw [arm, execDebugRequest, if_pos h]
  exact ⟨_, rfl, State.noticed_trans (State.noticed_raise _ _ _) (State.noticed_record _ _ _ _)⟩

theorem debugRequest_attaches (s : State) (l : LaneId) (hm : s.sys.mode = .commissioning) (hd : (s.lane l).stat.dbg = false)
    (he : (s.lane l).evaluates = true) :
    ∃ t, exec (.debugRequest l) s = .next t ∧ (t.lane l).stat.dbg = true ∧ (t.lane l).stat.state = .excluded
      ∧ (t.lane l).stat.cause = 0x08 ∧ (t.lane l).stat.exclTakes = (s.lane l).stat.exclTakes := by
  have arm : exec (.debugRequest l) s = execDebugRequest l s := rfl
  rw [arm, execDebugRequest, if_neg (not_not.mpr hm), if_neg (by simp [hd])]
  refine ⟨_, rfl, ?_⟩
  generalize ht : State.record _ _ _ _ = t
  have attached : t.lane l = (s.lane l).onStat fun x => { x with dbg := true, resetReq := false, ready := false } := by
    simp [← ht]
  have evaluates : (t.lane l).evaluates = true := by rw [attached]; exact he
  rw [State.breakLane_evaluates _ _ _ _ evaluates]
  have stat := (t.raise .lane 4).excludeLane_halt l l 0x08 251
  rw [State.dropLane_stat _ _ _ (by simpa using evaluates)] at stat
  refine ⟨?_, congrArg LaneStat.state stat, congrArg LaneStat.cause stat, ?_⟩
  · simpa [attached] using congrArg LaneStat.dbg stat
  · simpa [attached] using congrArg LaneStat.exclTakes stat

theorem debugDetach_detaches (s : State) (l : LaneId) :
    ∃ t, exec (.debugDetach l) s = .next t ∧ s.laneOnly t l
      ∧ t.lane l = { (s.lane l) with stat := { (s.lane l).stat with dbg := false } } :=
  ⟨_, rfl, ⟨_, rfl⟩, s.lane_onLane l _⟩

/-! ### Recovery (R236) -/

/-- A lane restores the vital state of a checkpoint whose digest is the recomputed one and the recorded one; the planes stand. -/
theorem Lane.restore_of_good (x : Lane) (k : Checkpoint) (hk : x.newest = some k) (hd : k.digest = vitalDigest k.vital) :
    (x.restore (some (k.vital.hdr.takeNum, k.digest))).vit =
      { k.vital with reg := { k.vital.reg with active := x.vit.reg.active, rtActive := x.vit.reg.rtActive } } := by
  simp [Lane.restore, hk, ← hd]

/-- A checkpoint whose digest is not the recomputed one is discarded. -/
theorem Lane.restore_newest_of_bad (x : Lane) (k : Checkpoint) (r : Option (Word × Quad)) (hk : x.newest = some k)
    (hd : k.digest ≠ vitalDigest k.vital) : (x.restore r).newest = none := by
  have bad : ¬ (r = some (k.vital.hdr.takeNum, vitalDigest k.vital) ∧ k.digest = vitalDigest k.vital) := fun h => hd h.2
  simp only [Lane.restore, hk, if_neg bad]
  cases x.ckptLast <;> simp [Lane.newest]

@[simp] theorem Lane.restore_stat (x : Lane) (r : Option (Word × Quad)) : (x.restore r).stat = x.stat := by
  unfold Lane.restore
  cases x.newest with
  | none => rfl
  | some k =>
    dsimp only
    split
    · rfl
    · cases x.ckptLast <;> rfl

/-- Steps 3 and 4 of R236 in a lane: its own state is restored, its cores are reset and run, and it is ready. -/
def Lane.recovered (x : Lane) (recorded : Option (Word × Quad)) (n : Nat) : Lane :=
  (x.restore recorded).onStat fun t => { t.halt.resume n with ready := true, reload := false, resetReq := false }

theorem Lane.recovered_stat (x : Lane) (recorded : Option (Word × Quad)) (n : Nat) :
    ∃ steps, (x.recovered recorded n).stat =
      { x.stat with running := true, waiting := false, steps := steps, ready := true, reload := false, resetReq := false } := by
  obtain ⟨steps, h⟩ := x.stat.halt.resume_eq n
  exact ⟨steps, by rw [Lane.recovered, Lane.onStat_stat, Lane.restore_stat, h]; rfl⟩

theorem Lane.recovered_vit (x : Lane) (recorded : Option (Word × Quad)) (n : Nat) :
    (x.recovered recorded n).vit = (x.restore recorded).vit := Lane.onStat_vit _ _

theorem Lane.recovered_newest (x : Lane) (recorded : Option (Word × Quad)) (n : Nat) :
    (x.recovered recorded n).newest = (x.restore recorded).newest := Lane.onStat_newest _ _

/-- LANE_RECOVERY_READY where no reload is due: the locks go, and the lane is recovered. -/
theorem exec_laneRecoveryReady (s : State) (l : LaneId) (hr : (s.lane l).mayRecover = true) (hw : s.wrap.running = false)
    (hl : (s.lane l).stat.reload = false) :
    exec (.laneRecoveryReady l) s = .next
      ((State.releaseLocks { s with free := s.free + 3 } (BitVec.ofNat 3 (l.num + 1))).setLane l
        ((s.lane l).recovered (s.vote.slotDig.get l) s.free)) := by
  show execLaneRecoveryReady l s = _
  simp [execLaneRecoveryReady, hr, hw, hl, State.onLane, Lane.recovered]

theorem Lane.excluded_of_mayRecover {x : Lane} (h : x.mayRecover = true) : x.stat.state = .excluded := by
  simp only [Lane.mayRecover, Bool.and_eq_true, decide_eq_true_eq] at h
  obtain ⟨⟨⟨⟨⟨excluded, -⟩, -⟩, -⟩, -⟩, -⟩ := h
  exact excluded

theorem laneRecoveryReady_recovers (s : State) (l : LaneId) (hr : (s.lane l).mayRecover = true) (hw : s.wrap.running = false)
    (hl : (s.lane l).stat.reload = false) :
    ∃ t, exec (.laneRecoveryReady l) s = .next t
      ∧ (t.lane l).stat.ready = true ∧ (t.lane l).stat.running = true ∧ (t.lane l).stat.resetReq = false ∧ (t.lane l).stat.state = .excluded
      ∧ (∀ k : Checkpoint, (s.lane l).newest = some k → k.digest = vitalDigest k.vital →
          s.vote.slotDig.get l = some (k.vital.hdr.takeNum, k.digest) →
          (t.lane l).vit.vec = k.vital.vec ∧ (t.lane l).vit.hdr = k.vital.hdr ∧ (t.lane l).vit.force = k.vital.force)
      ∧ (∀ k : Checkpoint, (s.lane l).newest = some k → k.digest ≠ vitalDigest k.vital → (t.lane l).newest = none)
      ∧ (∀ h ∈ t.locks, h ≠ some (BitVec.ofNat 3 (l.num + 1)))
      ∧ (∀ k : LaneId, k ≠ l → t.lane k = s.lane k) ∧ t.take = s.take ∧ t.sys = s.sys ∧ t.net = s.net := by
  obtain ⟨steps, stat⟩ := (s.lane l).recovered_stat (s.vote.slotDig.get l) s.free
  refine ⟨_, exec_laneRecoveryReady s l hr hw hl, ?_⟩
  rw [State.lane_setLane, stat, Lane.recovered_vit, Lane.recovered_newest]
  refine ⟨rfl, rfl, rfl, Lane.excluded_of_mayRecover hr, fun k hk hd hv => ?_, fun k hk hd => Lane.restore_newest_of_bad _ k _ hk hd,
    ?_, fun k hk => ?_, by simp, by simp, by simp⟩
  · rw [hv, Lane.restore_of_good _ k hk hd]
    exact ⟨rfl, rfl, rfl⟩
  · rw [State.setLane_locks]
    exact State.releaseLocks_released _ _
  · simp [State.lane_setLane_of_ne _ _ hk]

/-- Settles O23, command by command. -/
theorem lanesLeaveAndReturn : Obligations.LanesLeaveAndReturn :=
  ⟨lockstepBreak_excludes, ⟨debugRequest_refused, debugRequest_attaches, debugDetach_detaches⟩, laneRecoveryReady_recovers⟩

end Sys2Proof.Machine
end

section
/-! SUPPORT. What one wave step of a lane keeps and where it leads, and, from that, the statement about WAVE_STEP (R73 to R76). -/

namespace Sys2Proof.Machine

open Sys2Proof

/-! ### Numbers of phases and lanes -/

theorem Phase.num_lt (p : Phase) : p.num < 7 := by cases p <;> decide +kernel

theorem LaneId.num_lt (l : LaneId) : l.num < 3 := by cases l <;> decide +kernel

/-! ### What the answers of a wave step leave

Outcomes, records and settle counts are what a lane says of a step; its vectors and the place of its phase stay. -/

/-- What the waves of a lane run on: its state vectors, the place in the phase and the individual calls. -/
def Lane.wave (x : Lane) : List (Elem × TileVec) × Phase × Nat × Nat × List PointCall :=
  (x.vit.vec, x.fab.phase, x.fab.step, x.fab.phaseNs, x.fab.calls)

theorem Lane.wave_eq_iff (x y : Lane) : y.wave = x.wave ↔ y.vit.vec = x.vit.vec ∧ y.fab.phase = x.fab.phase ∧ y.fab.step = x.fab.step
    ∧ y.fab.phaseNs = x.fab.phaseNs ∧ y.fab.calls = x.fab.calls := by
  simp [Lane.wave]

theorem Lane.vec_of_wave {x y : Lane} (h : y.wave = x.wave) : y.vit.vec = x.vit.vec := congrArg (·.1) h

theorem Lane.phaseNs_of_wave {x y : Lane} (h : y.wave = x.wave) : y.fab.phaseNs = x.fab.phaseNs := congrArg (·.2.2.2.1) h

theorem Lane.calls_of_wave {x y : Lane} (h : y.wave = x.wave) : y.fab.calls = x.fab.calls := congrArg (·.2.2.2.2) h

theorem Lane.wave_foldl {α : Type} (f : Lane → α → Lane) (hf : ∀ (x : Lane) (a : α), (f x a).wave = x.wave) (as : List α) (x : Lane) :
    (as.foldl f x).wave = x.wave :=
  List.foldlRecOn (motive := fun y => y.wave = x.wave) as f rfl fun y h a _ => (hf y a).trans h

theorem Lane.wave_itemOutcome (x : Lane) (seq : Word) (item : Nat) (what : BitVec 16) (code : Byte) (cause : BitVec 3) :
    (itemOutcome x seq item what code cause).wave = x.wave := by
  unfold itemOutcome
  split <;> rfl

theorem Lane.wave_routeOutcome (x : Lane) (q : Request) (code : Byte) (cause : BitVec 3) :
    (routeOutcome x q code cause).wave = x.wave :=
  x.wave_itemOutcome ..

theorem Lane.wave_applyOutcome (x : Lane) (r : RouteId) (code : Byte) (cause : BitVec 3) (held : Bool) :
    (applyEv x (.outcome r code cause held)).wave = x.wave := by
  simp only [applyEv]
  split
  · exact Lane.wave_foldl _ (fun y q => y.wave_routeOutcome q code cause) _ x
  split
  · split
    · exact x.wave_routeOutcome ..
    · rfl
  · have h := x.wave_routeOutcome (requestOf x.fab.admitted r) code cause
    split <;> exact h

/-- Without individual calls none can be answered (R153). -/
theorem Lane.wave_applyEv (x : Lane) (hc : x.fab.calls = []) (e : TileEv) : (applyEv x e).wave = x.wave := by
  cases e with
  | outcome r code cause held => exact x.wave_applyOutcome r code cause held
  | called e code cause =>
    show Lane.wave (match x.fab.calls.find? _ with | some c => callOutcome x c code cause | none => x) = x.wave
    rw [hc]
    rfl
  | approach r => rfl
  | released r => rfl
  | overflow => rfl

theorem Lane.wave_applyEvs (x : Lane) (hc : x.fab.calls = []) (evs : List TileEv) : (evs.foldl applyEv x).wave = x.wave :=
  List.foldlRecOn (motive := fun y => y.wave = x.wave) evs applyEv rfl fun y h e _ =>
    (y.wave_applyEv ((Lane.calls_of_wave h).trans hc) e).trans h

theorem Lane.wave_edgeCount (x : Lane) : (edgeCount x).wave = x.wave := by
  unfold edgeCount
  dsimp only
  split
  · rfl
  refine Lane.wave_foldl _ (fun y t => ?_) _ x
  split
  · rfl
  refine Lane.wave_foldl _ (fun z p => ?_) _ y
  generalize (if portLinked (cfgPort t.cfg p) then tileAt z.fab.tiles (portAddr (cfgPort t.cfg p)) else none) = far
  cases far with
  | none => rfl
  | some q =>
    dsimp only
    split
    · rfl
    · split <;> rfl

theorem Lane.wave_closeCancels (x : Lane) : (closeCancels x).wave = x.wave :=
  Lane.wave_foldl _ (fun y q => y.wave_routeOutcome q 8 0) x.fab.cancels x

theorem Lane.wave_closeRequests (x : Lane) : (closeRequests x).wave = x.wave := by
  unfold closeRequests
  exact Lane.wave_foldl _ (fun y q => y.wave_applyOutcome ..) _ x

/-! ### The end of a phase -/

/-- What the lane still answers at the end of a phase (R218, R296). -/
def Lane.closePhase (x : Lane) (p : Phase) : Lane :=
  match p with
  | .p1 => edgeCount x
  | .p2 => closeCancels x
  | .p4 => closeRequests x
  | _ => x

theorem Lane.wave_closePhase (x : Lane) (p : Phase) : (x.closePhase p).wave = x.wave := by
  cases p with
  | p1 => exact x.wave_edgeCount
  | p2 => exact x.wave_closeCancels
  | p4 => exact x.wave_closeRequests
  | p0 | p3 | p5 | p6 => rfl

/-- The phase of this number has taken `ns` nanoseconds. -/
def Fabric.timed (f : Fabric) (ns k : Nat) : Fabric :=
  { f with durs := (f.durs ++ List.replicate (7 - f.durs.length) 0).set k ns }

theorem Fabric.durs_timed (f : Fabric) (ns : Nat) {k : Nat} (h : k < 7) : (f.timed ns k).durs.getD k 0 = ns := by
  have hk : k < f.durs.length + (7 - f.durs.length) := by omega
  simp [Fabric.timed, hk]

/-- Where the fabric goes on once a phase is quiescent (R76). -/
def Fabric.endPhase (f : Fabric) (p : Phase) : Fabric :=
  match p with
  | .p5 => { f with quiet := true, running := false, settleNs := (f.durs.take 6).sum }
  | .p6 => { f with quiet := true, running := false }
  | _ => startPhase f p.next

theorem phaseQuiet_vit (x : Lane) : (phaseQuiet x).vit = (x.closePhase x.fab.phase).vit := rfl

theorem phaseQuiet_fab (x : Lane) : (phaseQuiet x).fab =
    ((x.closePhase x.fab.phase).fab.timed (x.closePhase x.fab.phase).fab.phaseNs x.fab.phase.num).endPhase x.fab.phase := rfl

theorem Fabric.endPhase_durs (f : Fabric) (p : Phase) : (f.endPhase p).durs = f.durs := by cases p <;> rfl

theorem Fabric.endPhase_next (f : Fabric) {p : Phase} (h5 : p ≠ .p5) (h6 : p ≠ .p6) : f.endPhase p = startPhase f p.next := by
  cases p with
  | p5 => exact absurd rfl h5
  | p6 => exact absurd rfl h6
  | p0 | p1 | p2 | p3 | p4 => rfl

theorem Fabric.endPhase_last (f : Fabric) {p : Phase} (h : p = .p5 ∨ p = .p6) :
    (f.endPhase p).quiet = true ∧ (f.endPhase p).running = false := by
  obtain rfl | rfl := h <;> exact ⟨rfl, rfl⟩

theorem phaseQuiet_vec (x : Lane) : (phaseQuiet x).vit.vec = x.vit.vec := by
  rw [phaseQuiet_vit, Lane.vec_of_wave (x.wave_closePhase _)]

theorem phaseQuiet_durs (x : Lane) : (phaseQuiet x).fab.durs.getD x.fab.phase.num 0 = x.fab.phaseNs := by
  rw [phaseQuiet_fab, Fabric.endPhase_durs, Fabric.durs_timed _ _ x.fab.phase.num_lt, Lane.phaseNs_of_wave (x.wave_closePhase _)]

theorem phaseQuiet_next (x : Lane) (h5 : x.fab.phase ≠ .p5) (h6 : x.fab.phase ≠ .p6) :
    (phaseQuiet x).fab.phase = x.fab.phase.next ∧ (phaseQuiet x).fab.step = 0 ∧ (phaseQuiet x).fab.running = true := by
  rw [phaseQuiet_fab, Fabric.endPhase_next _ h5 h6]
  exact ⟨rfl, rfl, rfl⟩

theorem phaseQuiet_last (x : Lane) (h : x.fab.phase = .p5 ∨ x.fab.phase = .p6) :
    (phaseQuiet x).fab.quiet = true ∧ (phaseQuiet x).fab.running = false :=
  phaseQuiet_fab x ▸ Fabric.endPhase_last _ h

/-! ### One wave step of a lane -/

/-- The regions whose tiles report ACT (R75). -/
def StepAll.acts (r : StepAll) : List Nat := (r.reps.filter fun e => e.2.act).map (·.1)

theorem StepAll.acts_eq_nil (r : StepAll) : r.acts = [] ↔ ∀ e ∈ r.reps, e.2.act = false := by simp [StepAll.acts]

/-- The next step of all tiles of the lane. -/
def Lane.nextStep (x : Lane) (settle : Bool) : StepAll := stepAll x settle x.fab.phase (x.fab.step + 1)

/-- The lane with that step taken, before it answers what the tiles give it. -/
def Lane.moved (x : Lane) (settle : Bool) (ns : Nat) : Lane :=
  let r := x.nextStep settle
  (if x.fab.phase = .p6 ∧ x.fab.step + 1 = 1 then x.onVit fun v => { v with latch := p6Latch x } else x).onVit
      (fun v => { v with vec := r.vec })
    |>.onFab fun f => { f with tiles := r.tiles, step := x.fab.step + 1, phaseNs := f.phaseNs + ns }

theorem Lane.moved_vec (x : Lane) (settle : Bool) (ns : Nat) : (x.moved settle ns).vit.vec = (x.nextStep settle).vec := rfl

theorem Lane.moved_fab (x : Lane) (settle : Bool) (ns : Nat) :
    (x.moved settle ns).fab = { x.fab with tiles := (x.nextStep settle).tiles, step := x.fab.step + 1, phaseNs := x.fab.phaseNs + ns } := by
  unfold Lane.moved
  split <;> rfl

/-- The lane once it has answered what the tiles give it. -/
def Lane.answered (x : Lane) (settle : Bool) (ns : Nat) : Lane := (x.nextStep settle).evs.foldl applyEv (x.moved settle ns)

theorem Lane.wave_answered (x : Lane) (hc : x.fab.calls = []) (settle : Bool) (ns : Nat) :
    (x.answered settle ns).wave = (x.moved settle ns).wave :=
  (x.moved settle ns).wave_applyEvs (by rw [Lane.moved_fab, hc]) _

theorem Lane.answered_calls (x : Lane) (hc : x.fab.calls = []) (settle : Bool) (ns : Nat) : (x.answered settle ns).fab.calls = [] := by
  rw [Lane.calls_of_wave (x.wave_answered hc settle ns), Lane.moved_fab, hc]

/-- The lane with the region times kept (R77). -/
def Lane.waved (x : Lane) (settle : Bool) (ns : Nat) : Lane :=
  (x.answered settle ns).onFab fun f =>
    { f with regionNs := regionTimes f (x.nextStep settle).acts (x.answered settle ns).vit.reg.regEn }

theorem Lane.wave_waved (x : Lane) (hc : x.fab.calls = []) (settle : Bool) (ns : Nat) :
    (x.waved settle ns).wave = (x.moved settle ns).wave :=
  x.wave_answered hc settle ns

/-- A wave step of `ns` nanoseconds leaves the lane at its next step of the phase. -/
theorem Lane.waved_place (x : Lane) (hc : x.fab.calls = []) (settle : Bool) (ns : Nat) :
    (x.waved settle ns).fab.phase = x.fab.phase ∧ (x.waved settle ns).fab.step = x.fab.step + 1
      ∧ (x.waved settle ns).fab.phaseNs = x.fab.phaseNs + ns := by
  obtain ⟨-, hp, hn, ht, -⟩ := (Lane.wave_eq_iff _ _).1 (x.wave_waved hc settle ns)
  rw [hp, hn, ht, Lane.moved_fab]
  exact ⟨rfl, rfl, rfl⟩

theorem Lane.waved_stuck (x : Lane) (settle : Bool) (ns : Nat) (h : (x.nextStep settle).evs = []) :
    (x.waved settle ns).fab.stuck = x.fab.stuck := by
  show (x.answered settle ns).fab.stuck = x.fab.stuck
  rw [Lane.answered, h, List.foldl_nil, Lane.moved_fab]

/-- The verdict on a wave step of number `n` with these ACTs: whether it ends its phase or the lane's work (R76). -/
def Lane.verdict (z : Lane) (acts : List Nat) (n : Nat) : Lane :=
  if z.fab.stuck = true then z.onFab fun f => { f with running := false }
  else if acts = [] then phaseQuiet z
  else if 1024 ≤ n then z.onFab fun f => { f with running := false, stuck := true }
  else z

theorem Lane.verdict_quiet (z : Lane) (n : Nat) (h : z.fab.stuck = false) : z.verdict [] n = phaseQuiet z :=
  (if_neg (Bool.not_eq_true _ ▸ h)).trans (if_pos rfl)

theorem Lane.verdict_next (z : Lane) {acts : List Nat} {n : Nat} (h : z.fab.stuck = false) (ha : acts ≠ []) (hn : n < 1024) :
    z.verdict acts n = z :=
  (if_neg (Bool.not_eq_true _ ▸ h)).trans ((if_neg ha).trans (if_neg (Nat.not_le.2 hn)))

/-- Whatever the verdict, the vectors stand. -/
theorem Lane.verdict_vec (z : Lane) (acts : List Nat) (n : Nat) : (z.verdict acts n).vit.vec = z.vit.vec := by
  unfold Lane.verdict
  split
  · rfl
  split
  · exact phaseQuiet_vec z
  · split <;> rfl

/-- The verdict with the counts of the step, as the model gives them together. -/
def Lane.judged (z : Lane) (acts : List Nat) (n : Nat) (reps : List (Nat × TileRep)) : Lane × List (Nat × Byte × Nat) :=
  let quiet := decide (acts = []) && !z.fab.stuck
  let evs := stepEvents reps z.vit.reg.regEn quiet
  if z.fab.stuck then (z.onFab fun f => { f with running := false }, evs)
  else if quiet then (phaseQuiet z, evs)
  else if 1024 ≤ n then (z.onFab fun f => { f with running := false, stuck := true }, evs)
  else (z, evs)

theorem Lane.judged_eq (z : Lane) (acts : List Nat) (n : Nat) (reps : List (Nat × TileRep)) :
    z.judged acts n reps = (z.verdict acts n, stepEvents reps z.vit.reg.regEn (decide (acts = []) && !z.fab.stuck)) := by
  unfold Lane.judged Lane.verdict
  cases z.fab.stuck
  · by_cases ha : acts = []
    · simp [ha]
    · by_cases hn : 1024 ≤ n <;> simp [ha, hn]
  · rfl

/-- The counters of a wave step are those of the 16 regions (R591). -/
theorem stepEvents_region (reps : List (Nat × TileRep)) (regEn : BitVec 16) (quiet : Bool) :
    ∀ e ∈ stepEvents reps regEn quiet, e.1 < 16 := by
  intro e he
  simp only [stepEvents, List.mem_flatMap, List.mem_filter, List.mem_range] at he
  obtain ⟨r, ⟨hr, -⟩, he⟩ := he
  have : e.1 = r := by grind
  omega

/-- The end of a wave step: the individual calls that wait act first (R153). -/
def Lane.endStep (y : Lane) (settle : Bool) (p : Phase) (n : Nat) (r : StepAll) : Lane × List (Nat × Byte × Nat) :=
  let called := if p = .p4 ∧ r.acts = [] then issueCalls settle y.fab.calls.length y else (y, none)
  let acts := r.acts ++ called.2.toList
  (called.1.onFab fun f => { f with regionNs := regionTimes f acts y.vit.reg.regEn }).judged acts n r.reps

/-- The output latch of P6 is nothing that the tiles step from. -/
theorem stepAll_onLatch (x : Lane) (c : Prop) [Decidable c] (o : OutLatch) :
    stepAll (if c then x.onVit fun v => { v with latch := o } else x) = stepAll x := by
  split <;> rfl

theorem issueCalls_none (settle : Bool) (n : Nat) (x : Lane) (h : x.fab.calls = []) : issueCalls settle n x = (x, none) := by
  cases n <;> simp [issueCalls, h]

theorem laneStep_eq_endStep (x : Lane) (settle : Bool) (ns : Nat) (hr : x.fab.running = true) (hs : x.fab.stuck = false) :
    laneStep x settle ns = (x.answered settle ns).endStep settle x.fab.phase (x.fab.step + 1) (x.nextStep settle) := by
  rw [laneStep, if_neg (by simp [hr, hs])]
  dsimp only
  rw [stepAll_onLatch]
  rfl

/-- A wave step of a lane in which no individual call waits (R73 to R76, R153). -/
theorem laneStep_eq_judged (x : Lane) (settle : Bool) (ns : Nat) (hr : x.fab.running = true) (hs : x.fab.stuck = false)
    (hc : x.fab.calls = []) :
    laneStep x settle ns =
      (x.waved settle ns).judged (x.nextStep settle).acts (x.fab.step + 1) (x.nextStep settle).reps := by
  rw [laneStep_eq_endStep x settle ns hr hs, Lane.endStep, issueCalls_none _ _ _ (x.answered_calls hc settle ns), ite_self,
    Option.toList_none, List.append_nil]
  rfl

section
variable (x : Lane) (settle : Bool) (ns : Nat) (hr : x.fab.running = true) (hs : x.fab.stuck = false) (hc : x.fab.calls = [])
include hr hs hc

theorem laneStep_lane :
    (laneStep x settle ns).1 = (x.waved settle ns).verdict (x.nextStep settle).acts (x.fab.step + 1) := by
  rw [laneStep_eq_judged x settle ns hr hs hc, Lane.judged_eq]

theorem laneStep_region : ∀ e ∈ (laneStep x settle ns).2, e.1 < 16 := by
  rw [laneStep_eq_judged x settle ns hr hs hc, Lane.judged_eq]
  exact stepEvents_region _ _ _

theorem laneStep_vec : (laneStep x settle ns).1.vit.vec = (x.nextStep settle).vec := by
  rw [laneStep_lane x settle ns hr hs hc, Lane.verdict_vec, Lane.vec_of_wave (x.wave_waved hc settle ns), Lane.moved_vec]

theorem laneStep_terminal (he : (x.nextStep settle).evs = []) (ha : ∀ e ∈ (x.nextStep settle).reps, e.2.act = false) :
    (laneStep x settle ns).1 = phaseQuiet (x.waved settle ns) := by
  rw [laneStep_lane x settle ns hr hs hc, (StepAll.acts_eq_nil _).2 ha,
    Lane.verdict_quiet _ _ ((x.waved_stuck settle ns he).trans hs)]

theorem laneStep_goesOn (he : (x.nextStep settle).evs = []) (ha : ∃ e ∈ (x.nextStep settle).reps, e.2.act = true)
    (hn : x.fab.step + 1 < 1024) : (laneStep x settle ns).1 = x.waved settle ns := by
  have hacts : (x.nextStep settle).acts ≠ [] := by
    obtain ⟨e, hm, act⟩ := ha
    exact fun h => by simp [(StepAll.acts_eq_nil _).1 h e hm] at act
  rw [laneStep_lane x settle ns hr hs hc, Lane.verdict_next _ ((x.waved_stuck settle ns he).trans hs) hacts hn]

end

/-! ### WAVE_STEP -/

/-- What a wave step counts in the counters of its lane's regions (R591). -/
def State.countWave (s : State) (l : LaneId) (e : Nat × Byte × Nat) : State :=
  s.countN (64 * l.num + 4 * e.1) 4 { code := e.2.1, level := none, master := none, addr := none } e.2.2

/-- The counters of the regions are none of the sequencers'. -/
theorem State.noticed_countWave (s : State) (l : LaneId) (e : Nat × Byte × Nat) (h : e.1 < 16) : s.noticed (s.countWave l e) := by
  refine s.noticed_countN _ _ _ _ ?_
  have hl := LaneId.num_lt l
  omega

theorem State.noticed_countWaves (s : State) (l : LaneId) (evs : List (Nat × Byte × Nat)) (h : ∀ e ∈ evs, e.1 < 16) :
    s.noticed (evs.foldl (fun t e => t.countWave l e) s) :=
  List.foldlRecOn evs _ s.noticed_refl fun t ht e he => State.noticed_trans ht (t.noticed_countWave l e (h e he))

/-- After P0, WAVE_STEP is one wave step of the lane, and its counts (R73, R591). -/
theorem exec_waveStep (s : State) (l : LaneId) (ns : Nat) (he : (s.lane l).evaluates = true) (hp : (s.lane l).fab.phase ≠ .p0) :
    exec (.waveStep l ns) s = .next
      ((laneStep (s.lane l) s.sys.settling ns).2.foldl (fun t e => t.countWave l e)
        (s.setLane l (laneStep (s.lane l) s.sys.settling ns).1)) := by
  have h0 : (s.lane l).inP0 = false := by simp [Lane.inP0, hp]
  show execWaveStep l ns s = _
  simp only [execWaveStep, he, h0]
  rfl

/-- Settles O7: the command is one wave step of the lane, which ends its phase where no tile reports ACT. -/
theorem waveStepMovesAllTiles : Obligations.WaveStepMovesAllTiles := by
  intro s l ns he hr hs hp hc
  dsimp only
  have noticed := State.noticed_countWaves (s.setLane l (laneStep (s.lane l) s.sys.settling ns).1) l _
    (laneStep_region (s.lane l) s.sys.settling ns hr hs hc)
  obtain ⟨phase, step, phaseNs⟩ := (s.lane l).waved_place hc s.sys.settling ns
  refine ⟨_, exec_waveStep s l ns he hp, ?_⟩
  rw [State.lane_of_noticed noticed, State.take_of_noticed noticed, State.sys_of_noticed noticed, State.net_of_noticed noticed,
    State.pair_of_noticed noticed, State.fio_of_noticed noticed, State.lane_setLane]
  refine ⟨laneStep_vec _ _ ns hr hs hc, fun hev hact => ?_, fun hev hact hn => ?_, fun k hk => ?_, by simp, by simp, by simp, by simp,
    by simp⟩
  · rw [laneStep_terminal _ _ ns hr hs hc hev hact]
    rw [← phase, ← phaseNs]
    exact ⟨phaseQuiet_durs _, phaseQuiet_next _, phaseQuiet_last _⟩
  · rw [laneStep_goesOn _ _ ns hr hs hc hev hact hn]
    exact ⟨phase, step, phaseNs⟩
  · rw [State.lane_of_noticed noticed, State.lane_setLane_of_ne _ _ hk]

end Sys2Proof.Machine
end

section
/-! SUPPORT. What the timers with a command of their own leave in the vectors of a lane, and, from that, the statements about the
timers of P1 (R140) and of P2 and P5 (R158, R175, R214). -/

namespace Sys2Proof.Machine

open Sys2Proof

/-! ### Bit fields -/

theorem bit_setBit_same {w i : Nat} (x : BitVec w) (b : Bool) (h : i < w) : bit (setBit x i b) i = b := by
  cases b <;> simp [bit, setBit, h]

theorem field_setField_same {w n lo : Nat} (x : BitVec w) (v : BitVec n) (h : lo + n ≤ w) : field (setField x lo v) lo n = v := by
  ext i hi
  have hw : lo + i < w := by omega
  simp [field, setField, hi, hw]

/-- Writing a field leaves every field beside it. -/
theorem field_setField_of_disjoint {w n m lo k : Nat} (x : BitVec w) (v : BitVec n) (h : k + m ≤ lo ∨ lo + n ≤ k) :
    field (setField x lo v) k m = field x k m := by
  ext i hi
  have out : k + i < lo ∨ n ≤ k + i - lo := by omega
  have high : x.getLsbD (k + i) = true → k + i < w := BitVec.lt_of_getLsbD
  rcases out with out | out <;> simpa [field, setField, out] using high

theorem ps_psSet_same (v : TileVec) {i : Nat} (b : Bool) (h : i < 24) : ps (psSet v i b) i = b := bit_setBit_same v.pstate b h

/-! ### The vectors of a lane -/

theorem vecOf_vecMap_same (vs : List (Elem × TileVec)) (e : Elem) (w : TileVec) (h : ∃ y ∈ vs, y.1 = e) :
    vecOf (vecMap vs e fun _ => w) e = w := by
  induction vs with
  | nil => simp at h
  | cons y ys ih =>
    by_cases hy : y.1 = e
    · simp [vecOf, vecMap, hy]
    · have rest : ∃ z ∈ ys, z.1 = e := by simpa [hy] using h
      simpa [vecOf, vecMap, hy] using ih rest

theorem vecOf_vecMap_of_ne (vs : List (Elem × TileVec)) {e f : Elem} (g : TileVec → TileVec) (h : f ≠ e) :
    vecOf (vecMap vs e g) f = vecOf vs f := by
  induction vs with
  | nil => rfl
  | cons y ys ih =>
    by_cases hf : y.1 = f
    · have he : ¬ y.1 = e := by rw [hf]; exact h
      simp [vecOf, vecMap, hf, h]
    · by_cases he : y.1 = e <;> simpa [vecOf, vecMap, hf, he, Ne.symm h] using ih

theorem callOutcome_vec (x : Lane) (c : PointCall) (code : Byte) (cause : BitVec 3) : (callOutcome x c code cause).vit.vec = x.vit.vec := by
  show (itemOutcome x c.seq c.item (c.elem.zeroExtend 16) code cause).vit.vec = _
  exact Lane.vec_of_wave (x.wave_itemOutcome ..)

/-- The answers of a tile change no vector. -/
theorem applyEv_vec (x : Lane) (ev : TileEv) : (applyEv x ev).vit.vec = x.vit.vec := by
  cases ev with
  | outcome r code cause held => exact Lane.vec_of_wave (x.wave_applyOutcome r code cause held)
  | called e code cause =>
    simp only [applyEv]
    split
    · exact callOutcome_vec x _ code cause
    · rfl
  | approach r => rfl
  | released r => rfl
  | overflow => rfl

theorem foldl_applyEv_vec (x : Lane) (evs : List TileEv) : (evs.foldl applyEv x).vit.vec = x.vit.vec :=
  List.foldlRecOn (motive := fun y => y.vit.vec = x.vit.vec) evs applyEv rfl fun y h ev _ => (applyEv_vec y ev).trans h

/-! ### A timer at the start of its phase -/

/-- The tile of an element can expire before wave step 1 of a phase: its lane evaluates the phase, and its region is enabled (R140,
R143). -/
def Lane.mayExpire (x : Lane) (p : Phase) (e : Elem) : Prop :=
  x.evaluates = true ∧ x.fab.running = true ∧ x.fab.phase = p ∧ x.fab.step = 0 ∧ Machine.regionOn x.vit.reg e = true

/-- The vectors after one tile has changed. -/
theorem onTile_vec {x : Lane} {e : Elem} {u : Tile} (f : TileCtx → TileVec → WaveReg → TileVec × WaveReg)
    (hu : tileOf x.fab.tiles e = some u) :
    (onTile x e f).vit.vec = vecMap x.vit.vec e fun _ => (f (tileCtx x false u) (vecOf x.vit.vec e) u.wr).1 := by
  simp only [onTile, hu]
  rfl

/-- A timer of P1 that runs out does its section (R140, R141). -/
theorem expireP1_vec {x : Lane} {e : Elem} {u : Tile} {due : Pers → TileVec → TileVec → Bool} (hx : x.mayExpire .p1 e)
    (hu : tileOf x.fab.tiles e = some u) (hw : u.wr.timed = false)
    (hd : due (cfgPers u.cfg) (vecOf x.vit.vec e)
      (sectionP1 (tileCtx x false u) (tileInputs (tileCtx x false u)) (vecOf x.vit.vec e)) = true) :
    (expireP1 x e due).vit.vec = vecMap x.vit.vec e fun _ =>
      sectionP1 (tileCtx x false u) (tileInputs (tileCtx x false u)) (vecOf x.vit.vec e) := by
  unfold Lane.mayExpire at hx
  rw [expireP1, if_pos hx, onTile_vec _ hu]
  dsimp only
  rw [if_pos ⟨by simp [hw], hd⟩]

/-- Before wave step 1 a movement times out with its section of P1, as any timer of P1 (R154). -/
theorem expireMove_eq_expireP1 (x : Lane) (e : Elem) (h : x.fab.step = 0) :
    expireMove x e = expireP1 x e fun p v w => decide (p = .point) && ps v 4 && !ps w 4 && ps w 5 := by
  rw [expireMove, if_neg (by simp [h])]

/-- Settles O8: each of the four timers does the section of P1 of the tile. -/
theorem p1TimersExpire : Obligations.P1TimersExpire := by
  intro s e l u he hr hp hs hreg hu hw x v w c hc hd
  have hx : (s.lane l).mayExpire .p1 e := ⟨he, hr, hp, hs, hreg⟩
  simp only [List.mem_cons, List.not_mem_nil, or_false] at hc
  rcases hc with rfl | rfl | rfl | rfl
  case inr.inr.inl =>
    refine ⟨_, rfl, ⟨_, _, _, rfl⟩, ?_⟩
    rw [State.lane_onLanes, expireMove_eq_expireP1 _ _ hs]
    exact expireP1_vec hx hu hw hd
  all_goals
    refine ⟨_, rfl, ⟨_, _, _, rfl⟩, ?_⟩
    rw [State.lane_onLanes]
    exact expireP1_vec hx hu hw hd

/-! ### The timers of P2 and P5 -/

/-- A command that gives the tile of an element a new vector in a lane leaves the lane's other vectors. -/
theorem exec_setsVector {c : Instr} {s : State} {e : Elem} {l : LaneId} {g : Lane → Lane} {w : TileVec}
    (hc : exec c s = .next (s.onLanes fun _ => g)) (hy : ∃ y ∈ (s.lane l).vit.vec, y.1 = e)
    (hg : (g (s.lane l)).vit.vec = vecMap (s.lane l).vit.vec e fun _ => w) :
    ∃ t, exec c s = .next t ∧ s.lanesOnly t ∧ (∀ f : Elem, f ≠ e → vecOf (t.lane l).vit.vec f = vecOf (s.lane l).vit.vec f)
      ∧ vecOf (t.lane l).vit.vec e = w := by
  refine ⟨_, hc, ⟨_, _, _, rfl⟩, fun f hf => ?_, ?_⟩
  · rw [State.lane_onLanes, hg, vecOf_vecMap_of_ne _ _ hf]
  · rw [State.lane_onLanes, hg, vecOf_vecMap_same _ _ _ hy]

/-- The last take of a permission delay (R175). -/
theorem auxDelay_last {x : TileCtx} {v : TileVec} (hp : cfgPers x.cfg = .auxlogic) (hd : paramBit x.cfg 168 = true)
    (permit : ps v 1 = true) (undone : ps v 2 = false) (ht : v.tmr = 1) : auxDelay x v = psSet { v with tmr := 0 } 2 true := by
  simp [auxDelay, hp, hd, permit, undone, ht, tmrDown]

theorem expireDelay_vec {x : Lane} {e : Elem} {u : Tile} (hx : x.mayExpire .p2 e) (hu : tileOf x.fab.tiles e = some u)
    (hp : cfgPers u.cfg = .auxlogic) (undone : ps (vecOf x.vit.vec e) 2 = false)
    (done : ps (auxDelay (tileCtx x false u) (vecOf x.vit.vec e)) 2 = true) :
    (expireDelay x e).vit.vec = vecMap x.vit.vec e fun _ => auxDelay (tileCtx x false u) (vecOf x.vit.vec e) := by
  unfold Lane.mayExpire at hx
  rw [expireDelay, if_pos hx, onTile_vec _ hu]
  dsimp only
  rw [if_pos ⟨hp, by simp [undone], done⟩]

/-- PERMISSION_DELAY_EXPIRY sets DONE (R175). -/
theorem permissionDelayExpiry_done (s : State) (e : Elem) (l : LaneId) (u : Tile) (hx : (s.lane l).mayExpire .p2 e)
    (hu : tileOf (s.lane l).fab.tiles e = some u) (hy : ∃ y ∈ (s.lane l).vit.vec, y.1 = e) (hp : cfgPers u.cfg = .auxlogic)
    (hd : paramBit u.cfg 168 = true) (permit : ps (vecOf (s.lane l).vit.vec e) 1 = true)
    (undone : ps (vecOf (s.lane l).vit.vec e) 2 = false) (ht : (vecOf (s.lane l).vit.vec e).tmr = 1) :
    ∃ t, exec (.permissionDelayExpiry e) s = .next t ∧ s.lanesOnly t
      ∧ (∀ f : Elem, f ≠ e → vecOf (t.lane l).vit.vec f = vecOf (s.lane l).vit.vec f)
      ∧ ps (vecOf (t.lane l).vit.vec e) 2 = true ∧ (vecOf (t.lane l).vit.vec e).tmr = 0 := by
  have last := auxDelay_last (x := tileCtx (s.lane l) false u) hp hd permit undone ht
  have done : ps (auxDelay (tileCtx (s.lane l) false u) (vecOf (s.lane l).vit.vec e)) 2 = true := by
    rw [last]
    exact ps_psSet_same _ true (by decide)
  obtain ⟨t, ht, only, others, vec⟩ := exec_setsVector (c := .permissionDelayExpiry e) rfl hy (expireDelay_vec hx hu hp undone done)
  exact ⟨t, ht, only, others, by rw [vec]; exact done, by rw [vec, last]; rfl⟩

section
variable (x : TileCtx) (exitGo : Bool) (cls : BitVec 4) (doorsReq : Bool) (t : TileSt)

/-- A SIGNAL evaluated with route_ok = 0 shows the stop aspect (R158). -/
theorem aspectEval_stop_aspect : sigAspect (aspectEval x false exitGo cls doorsReq t).vec = 0 :=
  field_setField_same _ _ (by decide)

/-- Under an aspect that stays the stop aspect the proving grace runs on. -/
theorem aspectEval_stop_grace (h : sigAspect t.vec = 0) :
    field (aspectEval x false exitGo cls doorsReq t).vec.pstate 6 4 =
      if field t.vec.pstate 6 4 ≠ 0#4 then field t.vec.pstate 6 4 - 1 else field t.vec.pstate 6 4 := by
  simp only [aspectEval, withProving, psField, psSet, h]
  rw [field_setField_of_disjoint _ _ (by decide)]
  exact field_setField_same _ _ (by decide)

/-- A proceed aspect is remembered as the previous one. -/
theorem aspectEval_stop_previous (h : sigAspect t.vec ≠ 0) :
    field (aspectEval x false exitGo cls doorsReq t).vec.pstate 3 3 = sigAspect t.vec := by
  have new : (0 : BitVec 3) ≠ sigAspect t.vec := Ne.symm h
  simp only [aspectEval, withProving, psField, psSet, Bool.false_and, Bool.false_eq_true, if_false, if_pos new]
  rw [field_setField_of_disjoint _ _ (by decide)]
  exact field_setField_same _ _ (by decide)

end

/-- A SIGNAL that no check of P5 reaches is evaluated when its grace runs out (R158, R205). -/
theorem expireGrace_vec {x : Lane} {e : Elem} {u : Tile} (hx : x.mayExpire .p5 e) (hu : tileOf x.fab.tiles e = some u)
    (hp : cfgPers u.cfg = .signal) (hw : u.wr.aspect = false) (last : field (vecOf x.vit.vec e).pstate 6 4 = 1#4)
    (free : (vecOf x.vit.vec e).hold = 0) :
    (expireGrace x e).vit.vec = vecMap x.vit.vec e fun _ => (aspectEval (tileCtx x false u) false false 0 false
      { vec := vecOf x.vit.vec e, wr := { u.wr with aspStart := sigAspect (vecOf x.vit.vec e) }, queue := Four.rep [], evs := [] }).vec := by
  unfold Lane.mayExpire at hx
  rw [expireGrace, if_pos hx, onTile_vec _ hu]
  dsimp only
  rw [if_pos ⟨hp, by simp [hw], last, by simp [free]⟩]

/-- PROVE_GRACE_EXPIRY evaluates the SIGNAL with route_ok = 0 (R158). -/
theorem proveGraceExpiry_stops (s : State) (e : Elem) (l : LaneId) (u : Tile) (hx : (s.lane l).mayExpire .p5 e)
    (hu : tileOf (s.lane l).fab.tiles e = some u) (hy : ∃ y ∈ (s.lane l).vit.vec, y.1 = e) (hp : cfgPers u.cfg = .signal)
    (hw : u.wr.aspect = false) (last : field (vecOf (s.lane l).vit.vec e).pstate 6 4 = 1#4)
    (free : (vecOf (s.lane l).vit.vec e).hold = 0) :
    ∃ t, exec (.proveGraceExpiry e) s = .next t ∧ s.lanesOnly t
      ∧ (∀ f : Elem, f ≠ e → vecOf (t.lane l).vit.vec f = vecOf (s.lane l).vit.vec f)
      ∧ sigAspect (vecOf (t.lane l).vit.vec e) = 0
      ∧ (sigAspect (vecOf (s.lane l).vit.vec e) = 0 → field (vecOf (t.lane l).vit.vec e).pstate 6 4 = 0#4)
      ∧ (sigAspect (vecOf (s.lane l).vit.vec e) ≠ 0 →
          field (vecOf (t.lane l).vit.vec e).pstate 3 3 = sigAspect (vecOf (s.lane l).vit.vec e)) := by
  obtain ⟨t, ht, only, others, vec⟩ := exec_setsVector (c := .proveGraceExpiry e) rfl hy (expireGrace_vec hx hu hp hw last free)
  refine ⟨t, ht, only, others, ?_⟩
  rw [vec]
  refine ⟨aspectEval_stop_aspect .., fun stop => ?_, fun go => aspectEval_stop_previous _ _ _ _ _ go⟩
  rw [aspectEval_stop_grace _ _ _ _ _ stop, last]
  rfl

/-- A token sent changes no vector. -/
theorem send_vec (x : TileCtx) (t : TileSt) (p : Port) (k : Token) : (send x t p k).vec = t.vec := by
  unfold send sendAny
  split
  · rfl
  · split <;> rfl

/-- A SIGNAL whose approach locking has run out gives up its hold (R209, R214). -/
theorem expireApproach_vec {x : Lane} {e : Elem} {u : Tile} (hx : x.mayExpire .p2 e) (hu : tileOf x.fab.tiles e = some u)
    (hp : cfgPers u.cfg = .signal) (held : (vecOf x.vit.vec e).hold ≠ 0) (own : isOwn u.cfg (vecOf x.vit.vec e).route = true)
    (appr : sigApproach (vecOf x.vit.vec e) = true) (ht : (vecOf x.vit.vec e).tmr = 0) :
    (expireApproach x e).vit.vec = vecMap x.vit.vec e fun _ => releaseTile .signal (vecOf x.vit.vec e) := by
  unfold Lane.mayExpire at hx
  rw [expireApproach, if_pos hx, hu]
  dsimp only
  rw [if_pos ⟨hp, held, own, appr, ht⟩, foldl_applyEv_vec]
  show vecMap x.vit.vec e (fun _ => (send _ _ .b _).vec) = _
  rw [send_vec]

/-- APPROACH_LOCKING_EXPIRY releases the SIGNAL (R214). -/
theorem approachLockingExpiry_releases (s : State) (e : Elem) (l : LaneId) (u : Tile) (hx : (s.lane l).mayExpire .p2 e)
    (hu : tileOf (s.lane l).fab.tiles e = some u) (hy : ∃ y ∈ (s.lane l).vit.vec, y.1 = e) (hp : cfgPers u.cfg = .signal)
    (held : (vecOf (s.lane l).vit.vec e).hold ≠ 0) (own : isOwn u.cfg (vecOf (s.lane l).vit.vec e).route = true)
    (appr : sigApproach (vecOf (s.lane l).vit.vec e) = true) (ht : (vecOf (s.lane l).vit.vec e).tmr = 0) :
    ∃ t, exec (.approachLockingExpiry e) s = .next t ∧ s.lanesOnly t
      ∧ (∀ f : Elem, f ≠ e → vecOf (t.lane l).vit.vec f = vecOf (s.lane l).vit.vec f) ∧ (vecOf (t.lane l).vit.vec e).hold = 0 := by
  obtain ⟨t, ht, only, others, vec⟩ :=
    exec_setsVector (c := .approachLockingExpiry e) rfl hy (expireApproach_vec hx hu hp held own appr ht)
  exact ⟨t, ht, only, others, by rw [vec]; rfl⟩

/-- Settles O9, timer by timer. -/
theorem laterTimersExpire : Obligations.LaterTimersExpire := by
  refine ⟨fun s e l u ⟨he, hr, hph, hs, hreg, hu, hy⟩ hp hd permit undone ht => ?_,
    fun s e l u ⟨he, hr, hph, hs, hreg, hu, hy⟩ hp hw last free => ?_,
    fun s e l u ⟨he, hr, hph, hs, hreg, hu, hy⟩ hp held own appr ht => ?_⟩
  · exact permissionDelayExpiry_done s e l u ⟨he, hr, hph, hs, hreg⟩ hu hy hp hd permit undone ht
  · exact proveGraceExpiry_stops s e l u ⟨he, hr, hph, hs, hreg⟩ hu hy hp hw last free
  · exact approachLockingExpiry_releases s e l u ⟨he, hr, hph, hs, hreg⟩ hu hy hp held own appr ht

end Sys2Proof.Machine
end

section
/-! SUPPORT. What an individual item of the rushes does in a lane in P0, and, from that, the statement about the items (R30, R153, R163,
R164, R171). -/

namespace Sys2Proof.Machine

open Sys2Proof

/-! ### Operations of P0 that ask nothing of the module -/

/-- The lowest-lettered ACTIVE lane stays where every lane keeps its condition. -/
theorem State.voiceId_congr {s t : State} (h : ∀ l : LaneId, (t.lane l).stat = (s.lane l).stat) : t.voiceId = s.voiceId := by
  have active : ∀ l : LaneId, (t.lane l).active = (s.lane l).active := fun l => by rw [Lane.active, Lane.active, h]
  simp only [State.voiceId, State.lanesWith, active]

/-- An operation that asks nothing of the module and keeps the conditions and the region registers of the lanes changes the lanes alone:
no splice gives its image back (R291, R516). -/
theorem State.withLanes_eq_onLanes (s : State) (p : Lane → Bool) (f : Lane → Lane × List ModReq) (asks : ∀ x, (f x).2 = [])
    (stat : ∀ x, (f x).1.stat = x.stat) (reg : ∀ x, (f x).1.vit.reg = x.vit.reg) :
    s.withLanes p f = s.onLanes fun _ x => if p x then (f x).1 else x := by
  have statOf : ∀ l : LaneId, ((s.onLanes fun _ x => if p x then (f x).1 else x).lane l).stat = (s.lane l).stat := fun l => by
    rw [State.lane_onLanes]
    split
    · exact stat _
    · rfl
  have stage : (s.onLanes fun _ x => if p x then (f x).1 else x).voice.vit.reg = s.voice.vit.reg := by
    rw [State.voice, State.voiceId_congr statOf, State.lane_onLanes]
    split
    · exact reg _
    · rfl
  have keeps : usesImage s.voice.vit.reg.stage = true →
      (s.onLanes fun _ x => if p x then (f x).1 else x).freeStaging = s.onLanes fun _ x => if p x then (f x).1 else x := fun use => by
    rw [State.freeStaging, stage]
    refine if_neg fun ⟨_, free⟩ => ?_
    rcases free with free | free <;> simp [usesImage, free] at use
  simp only [State.withLanes, asks, ite_self, List.foldl_nil]
  split
  next use => exact keeps use
  next => rfl

/-! ### Individual items -/

/-- The row `i` of the rushes is an individual item: it does `f` in a lane in P0, and asks nothing of the module. -/
structure IsItem (i : Instr) (f : Lane → Lane) : Prop where
  row : ∀ s, exec i s = .next (s.rushRow i)
  command : ∀ c x, Lane.rushCommand c x i = (f x, [])
  stat : ∀ x, (f x).stat = x.stat
  reg : ∀ x, (f x).vit.reg = x.vit.reg

/-- An individual item acts in every lane in P0. -/
theorem IsItem.acts {i : Instr} {f : Lane → Lane} (h : IsItem i f) (s : State) (l : LaneId) (hs : s.rushing = true)
    (hl : (s.lane l).inP0 = true) : ∃ t, exec i s = .next t ∧ s.lanesOnly t ∧ t.lane l = f (s.lane l) := by
  have acts : s.rushRow i = s.onLanes fun _ x => if x.inP0 then f x else x := by
    rw [State.rushRow_applies s i hs]
    simp only [h.command]
    exact s.withLanes_eq_onLanes _ _ (fun _ => rfl) h.stat h.reg
  refine ⟨_, h.row s, ?_⟩
  rw [acts]
  exact ⟨⟨_, _, _, rfl⟩, by rw [State.lane_onLanes, if_pos hl]⟩

/-! ### What the items do -/

@[simp] theorem itemOutcome_stat (x : Lane) (seq : Word) (item : Nat) (what : BitVec 16) (code : Byte) (cause : BitVec 3) :
    (itemOutcome x seq item what code cause).stat = x.stat := by
  unfold itemOutcome
  split <;> rfl

@[simp] theorem itemOutcome_reg (x : Lane) (seq : Word) (item : Nat) (what : BitVec 16) (code : Byte) (cause : BitVec 3) :
    (itemOutcome x seq item what code cause).vit.reg = x.vit.reg := by
  unfold itemOutcome
  split <;> rfl

section
variable (x : Lane) (p : Pers) (e : Elem) (seq : Word) (item : Nat)

/-- An item for a POINT joins the calls of the take (R153). -/
theorem Lane.callItem_point (reverse : Bool) (h : x.persOf e = .point) :
    x.callItem e reverse seq item =
      x.onFab fun f => { f with calls := f.calls ++ [{ elem := e, reverse := reverse, seq := seq, item := item, issued := false }] } :=
  if_pos h

theorem Lane.callItem_other (reverse : Bool) (h : x.persOf e ≠ .point) :
    x.callItem e reverse seq item = itemOutcome x seq item (e.zeroExtend 16) 8 0 :=
  if_neg h

theorem Lane.rushItem_fits (f : Snapshot → Snapshot) (h : x.persOf e = p) :
    x.rushItem p e seq item f = itemOutcome (x.onVit fun v => { v with inputs := f v.inputs }) seq item (e.zeroExtend 16) 0xC 0 :=
  if_pos h

theorem Lane.rushItem_other (f : Snapshot → Snapshot) (h : x.persOf e ≠ p) :
    x.rushItem p e seq item f = itemOutcome x seq item (e.zeroExtend 16) 8 0 :=
  if_neg h

theorem Lane.callItem_stat (reverse : Bool) : (x.callItem e reverse seq item).stat = x.stat := by
  by_cases h : x.persOf e = .point
  · rw [Lane.callItem_point _ _ _ _ _ h]; rfl
  · rw [Lane.callItem_other _ _ _ _ _ h, itemOutcome_stat]

theorem Lane.callItem_reg (reverse : Bool) : (x.callItem e reverse seq item).vit.reg = x.vit.reg := by
  by_cases h : x.persOf e = .point
  · rw [Lane.callItem_point _ _ _ _ _ h]; rfl
  · rw [Lane.callItem_other _ _ _ _ _ h, itemOutcome_reg]

theorem Lane.rushItem_stat (f : Snapshot → Snapshot) : (x.rushItem p e seq item f).stat = x.stat := by
  by_cases h : x.persOf e = p
  · rw [Lane.rushItem_fits _ _ _ _ _ _ h, itemOutcome_stat]; rfl
  · rw [Lane.rushItem_other _ _ _ _ _ _ h, itemOutcome_stat]

theorem Lane.rushItem_reg (f : Snapshot → Snapshot) : (x.rushItem p e seq item f).vit.reg = x.vit.reg := by
  by_cases h : x.persOf e = p
  · rw [Lane.rushItem_fits _ _ _ _ _ _ h, itemOutcome_reg]; rfl
  · rw [Lane.rushItem_other _ _ _ _ _ _ h, itemOutcome_reg]

end

section
variable (e : Elem)

theorem isItem_pointCallNormal : IsItem (.pointCallNormal e) fun x => x.callItem e false 0 0 :=
  ⟨fun _ => rfl, fun _ _ => rfl, fun x => x.callItem_stat e 0 0 false, fun x => x.callItem_reg e 0 0 false⟩

theorem isItem_pointCallReverse : IsItem (.pointCallReverse e) fun x => x.callItem e true 0 0 :=
  ⟨fun _ => rfl, fun _ _ => rfl, fun x => x.callItem_stat e 0 0 true, fun x => x.callItem_reg e 0 0 true⟩

theorem isItem_doorRelease :
    IsItem (.doorRelease e) fun x => x.rushItem .doors e 0 0 fun i => { i with release := i.release ++ [e] } :=
  ⟨fun _ => rfl, fun _ _ => rfl, fun x => x.rushItem_stat .doors e 0 0 _, fun x => x.rushItem_reg .doors e 0 0 _⟩

theorem isItem_doorClose :
    IsItem (.doorClose e) fun x => x.rushItem .doors e 0 0 fun i => { i with close := i.close ++ [e] } :=
  ⟨fun _ => rfl, fun _ _ => rfl, fun x => x.rushItem_stat .doors e 0 0 _, fun x => x.rushItem_reg .doors e 0 0 _⟩

theorem isItem_plungerReset :
    IsItem (.plungerReset e) fun x => x.rushItem .plunger e 0 0 fun i => { i with reset := i.reset ++ [e] } :=
  ⟨fun _ => rfl, fun _ _ => rfl, fun x => x.rushItem_stat .plunger e 0 0 _, fun x => x.rushItem_reg .plunger e 0 0 _⟩

end

/-! ### The statement, clause by clause -/

section
variable {i : Instr} {f : Lane → Lane} {p : Pers} {g : Snapshot → Snapshot} (s : State) {e : Elem} (l : LaneId)
  (hs : s.rushing = true) (hl : (s.lane l).inP0 = true)
include hs hl

/-- A call of a POINT joins the calls of the take (R153). -/
theorem IsItem.calls {reverse : Bool} (h : IsItem i fun x => x.callItem e reverse 0 0) (hp : (s.lane l).persOf e = .point) :
    ∃ t, exec i s = .next t ∧ s.lanesOnly t
      ∧ t.lane l = { (s.lane l) with fab := { (s.lane l).fab with
          calls := (s.lane l).fab.calls ++ [{ elem := e, reverse := reverse, seq := 0, item := 0, issued := false }] } } := by
  obtain ⟨t, ht, only, lane⟩ := h.acts s l hs hl
  exact ⟨t, ht, only, lane.trans (Lane.callItem_point _ _ _ _ _ hp)⟩

/-- A door or plunger item that fits enters the latched inputs and is answered with TAKEN (R163, R164, R171, R218, R640). -/
theorem IsItem.takes (h : IsItem i fun x => x.rushItem p e 0 0 g) (hp : (s.lane l).persOf e = p) :
    ∃ t, exec i s = .next t ∧ s.lanesOnly t
      ∧ t.lane l = { (s.lane l) with vit := { (s.lane l).vit with
          inputs := g (s.lane l).vit.inputs
          outcomes := (s.lane l).vit.outcomes ++
            [{ kind := .route, seq := 0, item := 0, what := e.zeroExtend 16, code := 0xC, cause := 0 }] } } := by
  obtain ⟨t, ht, only, lane⟩ := h.acts s l hs hl
  exact ⟨t, ht, only, lane.trans (Lane.rushItem_fits _ _ _ _ _ _ hp)⟩

/-- An item for another personality is REFUSED_INVALID, with its record, and enters nothing (R219, R640). -/
theorem IsItem.refuses (h : IsItem i f) (other : f (s.lane l) = itemOutcome (s.lane l) 0 0 (e.zeroExtend 16) 8 0) :
    ∃ t, exec i s = .next t ∧ s.lanesOnly t
      ∧ (t.lane l).vit = { (s.lane l).vit with outcomes := (s.lane l).vit.outcomes ++
          [{ kind := .route, seq := 0, item := 0, what := e.zeroExtend 16, code := 8, cause := 0 }] }
      ∧ (t.lane l).fab = (s.lane l).fab ∧ (t.lane l).mem = (s.lane l).mem
      ∧ ∃ b : RecBody, b.code = 0x40 ∧ (t.lane l).report = (s.lane l).report ++ [b] := by
  obtain ⟨t, ht, only, lane⟩ := h.acts s l hs hl
  refine ⟨t, ht, only, ?_⟩
  rw [lane, other]
  exact ⟨rfl, rfl, rfl, _, rfl, rfl⟩

end

/-- A row of the rushes that comes outside P0 is held for those of the next take (R30). -/
theorem exec_held (s : State) (i : Instr) (hs : s.rushing = false) (row : exec i s = .next (s.rushRow i)) :
    exec i s = .next { s with take := { s.take with held := s.take.held ++ [i] } } := by
  rw [row, s.rushRow_held i hs]

/-- Settles O15, clause by clause. -/
theorem rushItemsFollowTheirPersonality : Obligations.RushItemsFollowTheirPersonality := by
  refine ⟨fun s e l hs hl hp => ?calls, fun s e l hs hl => ?inputs, fun s e l hs hl => ?refused, fun s e r g n i k a l d hs => ?held⟩
  case calls =>
    simp only [List.forall_mem_cons, List.not_mem_nil, false_implies, implies_true, and_true]
    exact ⟨(isItem_pointCallNormal e).calls s l hs hl hp, (isItem_pointCallReverse e).calls s l hs hl hp⟩
  case inputs =>
    simp only [List.forall_mem_cons, List.not_mem_nil, false_implies, implies_true, and_true]
    exact ⟨(isItem_doorRelease e).takes s l hs hl, (isItem_doorClose e).takes s l hs hl, (isItem_plungerReset e).takes s l hs hl⟩
  case refused =>
    simp only [List.forall_mem_cons, List.not_mem_nil, false_implies, implies_true, and_true]
    exact ⟨fun hp => (isItem_pointCallNormal e).refuses s l hs hl (Lane.callItem_other _ _ _ _ _ hp),
      fun hp => (isItem_pointCallReverse e).refuses s l hs hl (Lane.callItem_other _ _ _ _ _ hp),
      fun hp => (isItem_doorRelease e).refuses s l hs hl (Lane.rushItem_other _ _ _ _ _ _ hp),
      fun hp => (isItem_doorClose e).refuses s l hs hl (Lane.rushItem_other _ _ _ _ _ _ hp),
      fun hp => (isItem_plungerReset e).refuses s l hs hl (Lane.rushItem_other _ _ _ _ _ _ hp)⟩
  case held =>
    intro c hc
    refine exec_held s c hs ?_
    fin_cases hc <;> rfl

end Sys2Proof.Machine
end

section
/-! SUPPORT. What the four steps of the emergency release do in a lane in P0, and, from that, the statement about them (R215, R216). -/

namespace Sys2Proof.Machine

open Sys2Proof

/-! ### The members of a list whose entries with one key have been rewritten -/

section
variable {α κ : Type} [DecidableEq κ] (key : α → κ) {k : κ} {f : α → α} {l : List α} {b : α}

theorem mem_rewritten_of_key_eq (hb : key b = k) :
    b ∈ l.map (fun a => if key a = k then f a else a) ↔ ∃ a ∈ l, key a = k ∧ f a = b := by
  refine List.mem_map.trans (exists_congr fun a => and_congr_right fun _ => ?_)
  by_cases ha : key a = k
  · rw [if_pos ha, and_iff_right ha]
  · rw [if_neg ha]
    exact ⟨fun h => absurd (h ▸ hb) ha, fun h => absurd h.1 ha⟩

theorem mem_rewritten_of_key_ne (keeps : ∀ a, key (f a) = key a) (hb : key b ≠ k) :
    b ∈ l.map (fun a => if key a = k then f a else a) ↔ b ∈ l := by
  have entry : ∀ a, (if key a = k then f a else a) = b ↔ a = b := fun a => by
    by_cases ha : key a = k
    · rw [if_pos ha]
      exact ⟨fun h => absurd (h ▸ (keeps a).trans ha) hb, fun h => absurd (h ▸ ha) hb⟩
    · rw [if_neg ha]
  simp only [List.mem_map, entry, exists_eq_right]

end

/-! ### Shared operations -/

/-- The outcome of a route command enters record 7, and nothing else of the vital state changes (R218, R233). -/
theorem routeOutcome_vit (x : Lane) (q : Request) (code : Byte) (cause : BitVec 3) :
    (routeOutcome x q code cause).vit = { x.vit with outcomes := x.vit.outcomes ++
      [{ kind := .route, seq := q.seq, item := q.item, what := q.route.zeroExtend 16, code := code, cause := cause }] } := by
  unfold routeOutcome itemOutcome
  split <;> rfl

/-- An operation of P0 without a row of the rushes acts in every lane in P0, and changes the lanes alone. -/
theorem State.pureP0_acts (s : State) (f : Lane → Lane) (l : LaneId) (hl : (s.lane l).inP0 = true) :
    s.lanesOnly (s.pureP0 f) ∧ (s.pureP0 f).lane l = f (s.lane l) :=
  ⟨⟨_, _, _, rfl⟩, by rw [State.pureP0, State.lane_onLanes, if_pos hl]⟩

/-! ### What the steps do in a lane -/

section
variable (x : Lane) (q : Request) (r : RouteId)

/-- An arm that is accepted adds its entry to the table (R215, R216). -/
theorem Lane.erlArm_accepted (live : liveIn x.vit q.route = true) (unarmed : ∀ e ∈ x.vit.erl, e.route ≠ q.route)
    (room : x.vit.erl.length < 8) :
    (x.erlArm q).vit.erl = x.vit.erl ++
        [{ route := q.route, armTake := x.vit.hdr.takeNum, running := false, tmr := 0, expired := false }]
      ∧ (x.erlArm q).vit.vec = x.vit.vec := by
  have noEntry : ¬ (x.vit.erl.any fun e => decide (e.route = q.route)) = true := by simpa using unarmed
  rw [Lane.erlArm, if_pos ⟨live, noEntry, room⟩, routeOutcome_vit]
  exact ⟨rfl, rfl⟩

theorem Lane.erlArm_stat : (x.erlArm q).stat = x.stat := by
  unfold Lane.erlArm
  split <;> exact itemOutcome_stat ..

theorem Lane.erlArm_reg : (x.erlArm q).vit.reg = x.vit.reg := by
  unfold Lane.erlArm
  split <;> exact itemOutcome_reg ..

/-- An exec in the window runs the entries of its route from the count that ERL_IDX selects (R215). -/
theorem Lane.erlExec_accepted (armed : ∃ e ∈ x.vit.erl, e.route = q.route ∧ e.running = false
      ∧ 1 ≤ (x.vit.hdr.takeNum - e.armTake).toNat ∧ (x.vit.hdr.takeNum - e.armTake).toNat ≤ 256) :
    (x.erlExec q).vit.erl = x.vit.erl.map fun e =>
      if e.route = q.route then { e with running := true, tmr := x.timer (rtErlIdx (x.route q.route)) } else e := by
  obtain ⟨e, he, route, waits, after, before⟩ := armed
  rw [Lane.erlExec, if_pos (List.any_eq_true.mpr ⟨e, he, by simp only [waits, route, after, before]; decide⟩), routeOutcome_vit]
  rfl

theorem Lane.erlExec_stat : (x.erlExec q).stat = x.stat := by
  unfold Lane.erlExec
  dsimp only
  split <;> exact itemOutcome_stat ..

theorem Lane.erlExec_reg : (x.erlExec q).vit.reg = x.vit.reg := by
  unfold Lane.erlExec
  dsimp only
  split <;> exact itemOutcome_reg ..

/-- A timer that is due expires, and the exit marks of its route carry FREE (R215). -/
theorem Lane.erlExpire_due (due : ∃ e ∈ x.vit.erl, e.route = r ∧ e.running = true ∧ e.tmr = 0 ∧ e.expired = false) :
    (x.erlExpire r).vit.erl = x.vit.erl.map (fun e => if e.route = r then { e with expired := true } else e)
      ∧ (x.erlExpire r).fab.exits = x.fab.exits.map fun m => if m.route = r then { m with free := true } else m := by
  obtain ⟨e, he, route, running, zero, fresh⟩ := due
  rw [Lane.erlExpire, if_pos (List.any_eq_true.mpr ⟨e, he, by simp only [running, fresh, route, zero]; decide⟩)]
  exact ⟨rfl, rfl⟩

/-- A lapse takes exactly the arms of the route whose window is past out of the table (R215). -/
theorem Lane.mem_erlLapse (late : ∃ e ∈ x.vit.erl, e.route = r ∧ e.running = false ∧ 256 < (x.vit.hdr.takeNum - e.armTake).toNat)
    (e : ErlEntry) :
    e ∈ (x.erlLapse r).vit.erl ↔
      e ∈ x.vit.erl ∧ ¬ (e.route = r ∧ e.running = false ∧ 256 < (x.vit.hdr.takeNum - e.armTake).toNat) := by
  have test : ∀ d : ErlEntry, (decide (d.route = r) && !d.running && decide (256 < (x.vit.hdr.takeNum - d.armTake).toNat)) = true ↔
      d.route = r ∧ d.running = false ∧ 256 < (x.vit.hdr.takeNum - d.armTake).toNat := fun d => by
    simp only [Bool.and_eq_true, decide_eq_true_eq, Bool.not_eq_true', and_assoc]
  obtain ⟨d, hd, past⟩ := late
  rw [Lane.erlLapse, if_pos (List.any_eq_true.mpr ⟨d, hd, (test d).mpr past⟩), ← test, Bool.not_eq_true, ← Bool.not_eq_true']
  exact List.mem_filter

end

/-! ### The statement, clause by clause -/

theorem isItem_erlArm (r : RouteId) : IsItem (.erlArm r) fun x => x.erlArm (bareRequest r) :=
  ⟨fun _ => rfl, fun _ _ => rfl, fun x => x.erlArm_stat _, fun x => x.erlArm_reg _⟩

theorem isItem_erlExec (r : RouteId) : IsItem (.erlExec r) fun x => x.erlExec (bareRequest r) :=
  ⟨fun _ => rfl, fun _ _ => rfl, fun x => x.erlExec_stat _, fun x => x.erlExec_reg _⟩

/-- Settles O16, step by step. -/
theorem emergencyReleaseSteps : Obligations.EmergencyReleaseSteps := by
  refine fun s r l hl => ⟨fun hs live unarmed room => ?arm, fun hs armed => ?exec, fun due => ?expiry, fun late => ?lapse⟩
  case arm =>
    obtain ⟨t, ht, only, lane⟩ := (isItem_erlArm r).acts s l hs hl
    exact ⟨t, ht, only, lane ▸ Lane.erlArm_accepted _ (bareRequest r) live unarmed room⟩
  case exec =>
    obtain ⟨t, ht, only, lane⟩ := (isItem_erlExec r).acts s l hs hl
    refine ⟨t, ht, only, ?_⟩
    rw [lane, Lane.erlExec_accepted _ (bareRequest r) armed]
    refine ⟨fun e he route => ?_, fun e other => mem_rewritten_of_key_ne ErlEntry.route (fun _ => rfl) other⟩
    obtain ⟨d, _, _, rfl⟩ := (mem_rewritten_of_key_eq ErlEntry.route route).mp he
    exact ⟨rfl, rfl⟩
  case expiry =>
    obtain ⟨only, lane⟩ := s.pureP0_acts (·.erlExpire r) l hl
    obtain ⟨erl, exits⟩ := Lane.erlExpire_due _ r due
    refine ⟨_, rfl, only, ?_⟩
    rw [lane, erl, exits]
    refine ⟨fun e he route => ?_, fun m hm route => ?_⟩
    · obtain ⟨d, _, _, rfl⟩ := (mem_rewritten_of_key_eq ErlEntry.route route).mp he
      rfl
    · obtain ⟨d, _, _, rfl⟩ := (mem_rewritten_of_key_eq ExitMark.route route).mp hm
      rfl
  case lapse =>
    obtain ⟨only, lane⟩ := s.pureP0_acts (·.erlLapse r) l hl
    exact ⟨_, rfl, only, lane ▸ Lane.mem_erlLapse _ r late⟩

end Sys2Proof.Machine
end

section
/-! SUPPORT. What the enable and disable commands do in a lane in P0 and ask of the module, and, from that, the statement about them
(R272, R278, R434, R454). -/

namespace Sys2Proof.Machine

open Sys2Proof

/-! ### Shared operations -/

/-- Setting a bit leaves every other bit. -/
theorem bit_setBit_of_ne {w i k : Nat} (x : BitVec w) (b : Bool) (h : k ≠ i) : bit (setBit x i b) k = bit x k := by
  have clear : (1#w <<< i).getLsbD k = false := by simp [← BitVec.twoPow_eq, BitVec.getLsbD_twoPow, h.symm]
  cases b with
  | true => simp [bit, setBit, clear]
  | false => simpa [bit, setBit, clear] using BitVec.lt_of_getLsbD

/-- A splice that no longer needs its image changes the staging area alone. -/
theorem State.freeStaging_eq (s : State) : ∃ g, s.freeStaging = { s with stg := g } := by
  rw [State.freeStaging]
  split
  · exact ⟨_, rfl⟩
  · exact ⟨s.stg, rfl⟩

/-- The module changes no lane where it opens the switches of a group. -/
theorem State.groupOff_lane (s : State) (g : Nat) (l : LaneId) : (s.applyReq (.groupOff g)).lane l = s.lane l := by
  rw [State.applyReq, State.switched_lane, State.lane_with_fio]

/-- An operation of P0 changes the lanes, then what the voice asks of the module, then at most the staging area (R291, R516). -/
theorem State.withLanes_eq (s : State) (p : Lane → Bool) (f : Lane → Lane × List ModReq) {reqs : List ModReq}
    (asks : (if p s.voice then (f s.voice).2 else []) = reqs) :
    ∃ g, s.withLanes p f =
      { reqs.foldl State.applyReq (s.onLanes fun _ x => if p x then (f x).1 else x) with stg := g } := by
  rw [← asks, State.withLanes]
  split
  · exact State.freeStaging_eq _
  · exact ⟨_, rfl⟩

/-! ### The check of an enable -/

section
variable (x : Lane) (seq : Word) (scope : BitVec 3) (item : BitVec 16)

/-- A decision of the check enters record 7 and the reports of the lane, and nothing else changes (R277, R279). -/
theorem Lane.reason_eq (code : Byte) : ∃ report, x.reason seq code scope item =
    { x with report := report, vit := { x.vit with outcomes := x.vit.outcomes ++
      [{ kind := .enable, seq := seq, item := 0, what := item, code := code, cause := scope }] } } :=
  ⟨_, rfl⟩

/-- With no check running, an enable starts the check of its scope (R272). -/
theorem Lane.enable_idle (h : x.check = none) : x.enable seq scope item =
    { x with check := some { scope := scope, item := item, set := 0, slice := 0, start := x.vit.hdr.takeNum, seq := seq, result := none } } := by
  rw [Lane.enable, h]

/-- While a check runs, an enable is refused with CHECK_BUSY (R278). -/
theorem Lane.enable_busy {k : Check} (h : x.check = some k) : x.enable seq scope item = x.reason seq 0x80 scope item := by
  rw [Lane.enable, h]

theorem Lane.enable_stat : (x.enable seq scope item).stat = x.stat := by
  cases h : x.check with
  | none => rw [Lane.enable_idle _ _ _ _ h]
  | some k => rw [Lane.enable_busy _ _ _ _ h]; rfl

theorem Lane.enable_reg : (x.enable seq scope item).vit.reg = x.vit.reg := by
  cases h : x.check with
  | none => rw [Lane.enable_idle _ _ _ _ h]
  | some k => rw [Lane.enable_busy _ _ _ _ h]; rfl

/-- The end of a running check: what it touches beside the check is answers, reports and, where the check was that of a splice, the
splice; the enables stay (R278, R291, R302). -/
theorem Lane.abortCheck_eq : ∃ check report mem outcomes reg,
    x.abortCheck scope item =
      { x with check := check, report := report, mem := mem, vit := { x.vit with outcomes := outcomes, reg := reg } }
    ∧ reg.regEn = x.vit.reg.regEn ∧ reg.grpEn = x.vit.reg.grpEn ∧ (scope ≠ 1 → scope ≠ 2 → reg = x.vit.reg) := by
  unfold Lane.abortCheck
  split
  next => exact ⟨_, _, _, _, _, rfl, rfl, rfl, fun _ _ => rfl⟩
  next c _ =>
    dsimp only
    split
    next => exact ⟨_, _, _, _, _, rfl, rfl, rfl, fun _ _ => rfl⟩
    next inScope =>
      split
      next splice =>
        refine ⟨_, _, _, _, _, rfl, rfl, rfl, fun h1 h2 => ?_⟩
        have region : ¬ scope = 1#3 := h1
        have planes : ¬ 2#3 = scope := Ne.symm h2
        simp [splice.1, region, planes] at inScope
      next => exact ⟨_, _, _, _, _, rfl, rfl, rfl, fun _ _ => rfl⟩

@[simp] theorem Lane.abortCheck_stat : (x.abortCheck scope item).stat = x.stat := by
  obtain ⟨_, _, _, _, _, ends, _⟩ := x.abortCheck_eq scope item
  rw [ends]

@[simp] theorem Lane.abortCheck_disabled : (x.abortCheck scope item).disabled = x.disabled := by
  obtain ⟨_, _, _, _, _, ends, _⟩ := x.abortCheck_eq scope item
  rw [ends]

@[simp] theorem Lane.abortCheck_ses : (x.abortCheck scope item).vit.ses = x.vit.ses := by
  obtain ⟨_, _, _, _, _, ends, _⟩ := x.abortCheck_eq scope item
  rw [ends]

@[simp] theorem Lane.abortCheck_inputs : (x.abortCheck scope item).vit.inputs = x.vit.inputs := by
  obtain ⟨_, _, _, _, _, ends, _⟩ := x.abortCheck_eq scope item
  rw [ends]

@[simp] theorem Lane.abortCheck_regEn : (x.abortCheck scope item).vit.reg.regEn = x.vit.reg.regEn := by
  obtain ⟨_, _, _, _, _, ends, regEn, _⟩ := x.abortCheck_eq scope item
  rw [ends, regEn]

@[simp] theorem Lane.abortCheck_grpEn : (x.abortCheck scope item).vit.reg.grpEn = x.vit.reg.grpEn := by
  obtain ⟨_, _, _, _, _, ends, _, grpEn, _⟩ := x.abortCheck_eq scope item
  rw [ends, grpEn]

/-- The enable of a session or group is no part of a splice's check, so no splice falls back (R278, R302). -/
theorem Lane.abortCheck_reg (h1 : scope ≠ 1) (h2 : scope ≠ 2) : (x.abortCheck scope item).vit.reg = x.vit.reg := by
  obtain ⟨_, _, _, _, _, ends, _, _, reg⟩ := x.abortCheck_eq scope item
  rw [ends, reg h1 h2]

end

/-- An enable command starts the check of its scope, or is refused while the running check goes on (R272, R278). -/
theorem IsItem.starts {i : Instr} {scope : BitVec 3} {item : BitVec 16} (h : IsItem i fun x => x.enable 0 scope item) (s : State)
    (l : LaneId) (hs : s.rushing = true) (hl : (s.lane l).inP0 = true) :
    ((s.lane l).check = none → ∃ t, exec i s = .next t ∧ s.lanesOnly t
      ∧ t.lane l = { (s.lane l) with check := some { scope := scope, item := item, set := 0, slice := 0
                                                     start := (s.lane l).vit.hdr.takeNum, seq := 0, result := none } })
    ∧ (∀ k : Check, (s.lane l).check = some k → ∃ t, exec i s = .next t ∧ s.lanesOnly t ∧ (t.lane l).check = some k
      ∧ (t.lane l).vit = { (s.lane l).vit with outcomes := (s.lane l).vit.outcomes ++
          [{ kind := .enable, seq := 0, item := 0, what := item, code := 0x80, cause := scope }] }) := by
  obtain ⟨t, ht, only, lane⟩ := h.acts s l hs hl
  refine ⟨fun idle => ⟨t, ht, only, lane.trans (Lane.enable_idle _ _ _ _ idle)⟩, fun k busy => ⟨t, ht, only, ?_⟩⟩
  obtain ⟨_, answer⟩ := (s.lane l).reason_eq 0 scope item 0x80
  rw [lane, Lane.enable_busy _ _ _ _ busy, answer]
  exact ⟨busy, rfl⟩

theorem isItem_regionEn (r : Region) : IsItem (.regionEn r) fun x => x.enable 0 1 (r.zeroExtend 16) :=
  ⟨fun _ => rfl, fun _ _ => rfl, fun x => x.enable_stat _ _ _, fun x => x.enable_reg _ _ _⟩

theorem isItem_sessionEn (n : SesId) : IsItem (.sessionEn n) fun x => x.enable 0 3 (n.zeroExtend 16) :=
  ⟨fun _ => rfl, fun _ _ => rfl, fun x => x.enable_stat _ _ _, fun x => x.enable_reg _ _ _⟩

theorem isItem_groupEn (g : BitVec 3) : IsItem (.groupEn g) fun x => x.enable 0 4 (g.zeroExtend 16) :=
  ⟨fun _ => rfl, fun _ _ => rfl, fun x => x.enable_stat _ _ _, fun x => x.enable_reg _ _ _⟩

/-! ### What the disable commands do in a lane -/

section
variable (x : Lane) (r : Region) (n : SesId) (g : Nat)

theorem Lane.regionOff_enables : (x.regionOff r).vit.reg.regEn = setBit x.vit.reg.regEn r.toNat false
    ∧ (x.regionOff r).disabled = setBit x.disabled r.toNat true
    ∧ (x.regionOff r).vit.reg.grpEn = x.vit.reg.grpEn ∧ (x.regionOff r).vit.ses = x.vit.ses :=
  ⟨Lane.abortCheck_regEn _ _ _, Lane.abortCheck_disabled _ _ _, Lane.abortCheck_grpEn _ _ _, Lane.abortCheck_ses _ _ _⟩

theorem Lane.sessionOff_stat : (x.sessionOff n).stat = x.stat := Lane.abortCheck_stat _ _ _

theorem Lane.sessionOff_reg : (x.sessionOff n).vit.reg = x.vit.reg := Lane.abortCheck_reg _ _ _ (by decide) (by decide)

/-- The record of the session reads disabled and stale (R272, R350). -/
theorem Lane.sessionOff_ses : (x.sessionOff n).vit.ses =
    x.vit.ses.map fun y => if y.ses = n then { y with enabled := false, fresh := false } else y :=
  Lane.abortCheck_ses _ _ _

/-- The enable of the group clears, and its pins read restricted from this take on (R272, R434). -/
theorem Lane.groupOff_enables (hg : 1 ≤ g ∧ g ≤ 6) : (x.groupOff g).vit.reg.grpEn = setBit x.vit.reg.grpEn (g - 1) false
    ∧ (x.groupOff g).vit.inputs.rmask = x.vit.inputs.rmask ||| groupPins g := by
  rw [Lane.groupOff, if_pos hg]
  exact ⟨Lane.abortCheck_grpEn _ _ _, congrArg Snapshot.rmask (Lane.abortCheck_inputs _ _ _)⟩

end

theorem isItem_sessionDis (n : SesId) : IsItem (.sessionDis n) fun x => x.sessionOff n :=
  ⟨fun _ => rfl, fun _ _ => rfl, fun x => x.sessionOff_stat n, fun x => x.sessionOff_reg n⟩

/-! ### What the disable commands do in the module -/

section
variable (s : State) (r : Region) (g : BitVec 3) (l : LaneId) (hs : s.rushing = true) (hl : (s.lane l).inP0 = true)
include hs hl

/-- REGION_DIS changes the lanes, and gives the image of a splice back that it ends (R272, R302, R516). -/
theorem exec_regionDis : ∃ t, exec (.regionDis r) s = .next t ∧ s.lanesOnly { t with stg := s.stg }
    ∧ t.lane l = (s.lane l).regionOff r := by
  obtain ⟨_, acts⟩ := s.withLanes_eq Lane.inP0 (·.rushCommand s.cmdCtx (.regionDis r)) (reqs := []) (ite_self _)
  refine ⟨_, congrArg Host.Outcome.next (s.rushRow_applies (.regionDis r) hs), ?_⟩
  rw [acts]
  refine ⟨⟨_, _, _, rfl⟩, ?_⟩
  rw [State.lane_with_stg, List.foldl_nil, State.lane_onLanes, if_pos hl]
  rfl

/-- GROUP_DIS changes the lanes, and the module clears the commands and the fault codes of the group (R272, R454; log 121). -/
theorem exec_groupDis (hv : s.voice.inP0 = true) : ∃ t, exec (.groupDis g) s = .next t ∧ t.take = s.take ∧ t.sys = s.sys
    ∧ t.fio = clearGroupFaults s.fio g.toNat ∧ t.lane l = (s.lane l).groupOff g.toNat := by
  obtain ⟨_, acts⟩ := s.withLanes_eq Lane.inP0 (·.rushCommand s.cmdCtx (.groupDis g)) (reqs := [.groupOff g.toNat]) (if_pos hv)
  refine ⟨_, congrArg Host.Outcome.next (s.rushRow_applies (.groupDis g) hs), ?_⟩
  rw [acts]
  refine ⟨State.switched_take _ _, State.switched_sys _ _, State.switched_fio _ _, ?_⟩
  rw [State.lane_with_stg, List.foldl_cons, List.foldl_nil, State.groupOff_lane, State.lane_onLanes, if_pos hl]
  rfl

end

/-- The output switches of a group that is disabled open in every lane (R430, R444; log 121). -/
theorem clearGroupFaults_cmd (f : FioSt) (g : Nat) (k : LaneId) :
    (clearGroupFaults f g).cmd.get k = f.cmd.get k &&& ~~~groupPins g := by
  cases k <;> rfl

/-! ### The statement, clause by clause -/

/-- Settles O17, clause by clause. -/
theorem enablesAndDisables : Obligations.EnablesAndDisables := by
  refine ⟨fun s r n g l hs hl => ?enables, fun s r l hs hl => ?region, fun s n l hs hl => ?session,
    fun s g l hs hl hv h1 h6 => ?group⟩
  case enables =>
    simp only [List.forall_mem_cons, List.not_mem_nil, false_implies, implies_true, and_true]
    exact ⟨(isItem_regionEn r).starts s l hs hl, (isItem_sessionEn n).starts s l hs hl, (isItem_groupEn g).starts s l hs hl⟩
  case region =>
    obtain ⟨t, ht, only, lane⟩ := exec_regionDis s r l hs hl
    obtain ⟨regEn, disabled, grpEn, ses⟩ := (s.lane l).regionOff_enables r
    refine ⟨t, ht, only, ?_⟩
    rw [lane, regEn, disabled, grpEn, ses]
    exact ⟨bit_setBit_same _ _ r.isLt, bit_setBit_same _ _ r.isLt, fun _ _ other => bit_setBit_of_ne _ _ other, rfl, rfl⟩
  case session =>
    obtain ⟨t, ht, only, lane⟩ := (isItem_sessionDis n).acts s l hs hl
    refine ⟨t, ht, only, ?_⟩
    rw [lane, Lane.sessionOff_reg, Lane.sessionOff_ses]
    refine ⟨fun y hy own => ?_, fun y other => mem_rewritten_of_key_ne SesRec.ses (fun _ => rfl) other, rfl⟩
    obtain ⟨_, _, _, rfl⟩ := (mem_rewritten_of_key_eq SesRec.ses own).mp hy
    exact ⟨rfl, rfl⟩
  case group =>
    obtain ⟨t, ht, take, sys, fio, lane⟩ := exec_groupDis s g l hs hl hv
    obtain ⟨grpEn, rmask⟩ := (s.lane l).groupOff_enables g.toNat ⟨h1, h6⟩
    refine ⟨t, ht, take, sys, fun k => by rw [fio, clearGroupFaults_cmd], ?_⟩
    rw [lane, grpEn, rmask]
    refine ⟨bit_setBit_same _ _ (by omega), fun _ _ other => bit_setBit_of_ne _ _ other, fun k _ pin => ?_⟩
    rw [bit, BitVec.getLsbD_or, Bool.or_eq_true]
    exact .inr pin

end Sys2Proof.Machine
end

section
/-! SUPPORT. What the splice commands do in a lane in P0 and ask of the module, and, from that, the statement about them (R284 to R292,
R300). -/

namespace Sys2Proof.Machine

open Sys2Proof

/-! ### Requests that act on the staging area -/

/-- The request touches the staging area alone: the marker of a splice and the use of its image (R291, R300). -/
def ModReq.OnStaging (q : ModReq) : Prop := ∀ s : State, ∃ g, s.applyReq q = { s with stg := g }

@[simp] theorem ModReq.onStaging_marker (set : BitVec 16) : OnStaging (.marker set) := fun _ => ⟨_, rfl⟩
@[simp] theorem ModReq.onStaging_spliceUse : OnStaging .spliceUse := fun _ => ⟨_, rfl⟩
@[simp] theorem ModReq.onStaging_spliceEnd : OnStaging .spliceEnd := fun _ => ⟨_, rfl⟩

theorem State.foldl_applyReq_onStaging (reqs : List ModReq) (s : State) (h : ∀ q ∈ reqs, q.OnStaging) :
    ∃ g, reqs.foldl State.applyReq s = { s with stg := g } := by
  induction reqs generalizing s with
  | nil => exact ⟨s.stg, rfl⟩
  | cons q qs ih =>
    obtain ⟨_, head⟩ := h q List.mem_cons_self s
    obtain ⟨g, tail⟩ := ih (s.applyReq q) fun r hr => h r (List.mem_cons_of_mem q hr)
    exact ⟨g, by rw [List.foldl_cons, tail, head]⟩

/-- The marker that the coordinator journals changes the staging area alone (R300). -/
theorem State.journalMarker_eq (s : State) (set : BitVec 16) :
    s.journalMarker set = { s with stg := (s.journalMarker set).stg } := by
  rw [State.journalMarker]
  split <;> rfl

/-- A splice that gives its image back keeps its marker (R300, R516). -/
theorem State.freeStaging_marker (s : State) : s.freeStaging.stg.marker = s.stg.marker := by
  rw [State.freeStaging]
  split <;> rfl

/-- The module after a row of the rushes has acted in the lanes in P0, with nothing asked of it yet. -/
def State.rushLanes (s : State) (i : Instr) : State :=
  s.onLanes fun _ x => if x.inP0 then (x.rushCommand s.cmdCtx i).1 else x

theorem State.rushLanes_lane (s : State) (i : Instr) {l : LaneId} (hl : (s.lane l).inP0 = true) :
    (s.rushLanes i).lane l = ((s.lane l).rushCommand s.cmdCtx i).1 := by
  rw [State.rushLanes, State.lane_onLanes, if_pos hl]

section
variable (s : State) (i : Instr) (hs : s.rushing = true)
include hs

/-- A row of the rushes that asks for nothing outside the staging area changes that area and the lanes in P0 alone. -/
theorem State.rushRow_onStaging (asks : ∀ q ∈ (s.voice.rushCommand s.cmdCtx i).2, q.OnStaging) :
    s.rushRow i = { s.rushLanes i with stg := (s.rushRow i).stg } := by
  have own : ∀ q ∈ (if s.voice.inP0 then (s.voice.rushCommand s.cmdCtx i).2 else []), q.OnStaging := by
    split
    · exact asks
    · exact fun _ h => absurd h List.not_mem_nil
  obtain ⟨_, reqs⟩ := State.foldl_applyReq_onStaging _ (s.rushLanes i) own
  obtain ⟨_, acts⟩ := s.withLanes_eq Lane.inP0 (·.rushCommand s.cmdCtx i) rfl
  rw [s.rushRow_applies i hs, acts, ← State.rushLanes, reqs]

/-- Under such a row a lane in P0 holds what the row makes of it. -/
theorem State.rushRow_onStaging_lane (asks : ∀ q ∈ (s.voice.rushCommand s.cmdCtx i).2, q.OnStaging) {l : LaneId}
    (hl : (s.lane l).inP0 = true) : (s.rushRow i).lane l = ((s.lane l).rushCommand s.cmdCtx i).1 := by
  rw [s.rushRow_onStaging i hs asks, State.lane_with_stg, s.rushLanes_lane i hl]

/-- Where no splice has its image in use, the staging area is what the request of the voice makes of it: none is given back (R516). -/
theorem State.rushRow_stg_of_unused {q : ModReq} (hv : s.voice.inP0 = true) (unused : usesImage s.voice.vit.reg.stage = false)
    (asks : (s.voice.rushCommand s.cmdCtx i).2 = [q]) :
    (s.rushRow i).stg = ((s.rushLanes i).applyReq q).stg := by
  simp only [s.rushRow_applies i hs, State.withLanes, hv, asks, unused, if_true, List.foldl_cons, List.foldl_nil, Bool.false_eq_true,
    if_false, State.rushLanes]

/-- The marker is what the request of the voice makes of it, whether or not the image is given back (R300, R516). -/
theorem State.rushRow_marker {q : ModReq} (hv : s.voice.inP0 = true) (asks : (s.voice.rushCommand s.cmdCtx i).2 = [q]) :
    (s.rushRow i).stg.marker = ((s.rushLanes i).applyReq q).stg.marker := by
  simp only [s.rushRow_applies i hs, State.withLanes, hv, asks, if_true, List.foldl_cons, List.foldl_nil, State.rushLanes]
  split
  · exact State.freeStaging_marker _
  · rfl

end

/-- A splice that has its image in use keeps it (R516). -/
theorem State.freeStaging_of_usesImage (s : State) (used : usesImage s.voice.vit.reg.stage = true) : s.freeStaging = s := by
  rw [State.freeStaging]
  refine if_neg fun ⟨_, free⟩ => ?_
  rcases free with free | free <;> simp [usesImage, free] at used

/-- The voice speaks for the same lane where every lane keeps its condition. -/
theorem State.voice_onLanes (s : State) (f : LaneId → Lane → Lane) (stat : ∀ l x, (f l x).stat = x.stat) :
    (s.onLanes f).voice = f s.voiceId s.voice := by
  have same : (s.onLanes f).voiceId = s.voiceId := State.voiceId_congr fun l => by rw [State.lane_onLanes, stat]
  rw [State.voice, same, State.lane_onLanes, State.voice]

/-- A row that asks for nothing, keeps the conditions of the lanes and leaves a splice that has its image in use in a stage that has it
changes the lanes in P0 alone (R291, R516). -/
theorem State.rushRow_eq_rushLanes (s : State) (i : Instr) (hs : s.rushing = true) (asks : (s.voice.rushCommand s.cmdCtx i).2 = [])
    (stat : ∀ x : Lane, (x.rushCommand s.cmdCtx i).1.stat = x.stat)
    (keeps : ∀ x : Lane, usesImage (x.rushCommand s.cmdCtx i).1.vit.reg.stage = usesImage x.vit.reg.stage) :
    s.rushRow i = s.rushLanes i := by
  rw [s.rushRow_applies i hs]
  simp only [State.withLanes, asks, ite_self, List.foldl_nil]
  split
  next used =>
    refine State.freeStaging_of_usesImage _ ?_
    rw [State.voice_onLanes _ _ fun _ x => by split; exacts [stat x, rfl]]
    split
    · rw [keeps, used]
    · exact used
  next => rfl

/-! ### What the splice commands do in a lane -/

section
variable (c : CmdCtx) (x : Lane) (seq : Word)

theorem Lane.onReg_reg (f : RegionState → RegionState) : (x.onReg f).vit.reg = f x.vit.reg := rfl

/-- The outcome of a splice command enters record 7 and the reports, and leaves the regions as they are (R233, R498). -/
theorem Lane.spliceOutcome_reg (code : Byte) : (x.spliceOutcome seq code).vit.reg = x.vit.reg := rfl

/-- SPLICE_ABORT asks for nothing but the end of the splice, whatever its outcome (R290, R300). -/
theorem Lane.spliceAbort_asks : ∀ q ∈ (x.spliceAbort c seq).2, q.OnStaging := by
  unfold Lane.spliceAbort
  dsimp only
  split_ifs <;> simp

theorem Lane.spliceSchedule_stat (k : Word) : (x.spliceSchedule c seq k).stat = x.stat := by
  unfold Lane.spliceSchedule
  dsimp only
  split_ifs <;> rfl

/-- SPLICE_SCHEDULE neither takes an image into use nor gives one back (R292). -/
theorem Lane.spliceSchedule_usesImage (k : Word) :
    usesImage (x.spliceSchedule c seq k).vit.reg.stage = usesImage x.vit.reg.stage := by
  unfold Lane.spliceSchedule
  dsimp only
  split_ifs with _ stage
  · rfl
  · rcases stage with stage | stage | stage <;> simp [Lane.spliceOutcome_reg, Lane.onReg_reg, usesImage, stage]
  · rfl
  · rfl
  · rfl

variable {c x} (mode : spliceMode c.mode = true)
include mode

/-- With no splice in hand, a set of 1 to 14 regions is barred and its regions read restrictive (R284, R285, R287, R288). -/
theorem Lane.spliceBar_accepted {set : BitVec 16} (free : x.vit.reg.stage = .none) (nonempty : set ≠ 0) (size : popCount set 16 ≤ 14) :
    x.spliceBar c seq set =
      ((({ x with noticed := false }).onReg fun g => { g with
          stage := .barred, spliceSet := set, regRestrict := g.regRestrict ||| set, commitTake := 0, sched := false, settle := [] }
        ).spliceOutcome seq 0, [.marker set]) := by
  rw [Lane.spliceBar, if_neg (not_not.mpr mode), if_neg (not_not.mpr (decide_eq_true free)),
    if_neg (not_or.mpr ⟨nonempty, not_lt.mpr size⟩)]

/-- From BARRED, with the staged image of the set, loading begins into shadow planes that are invalid (R285, R286, R291). -/
theorem Lane.spliceLoad_accepted (barred : x.vit.reg.stage = .barred) (image : c.image = some x.vit.reg.spliceSet) :
    x.spliceLoad c seq =
      ((({ x with mem := { x.mem with loaded := 0 } }).onReg fun g =>
          { shadowDrop g with stage := .loading, commitTake := 0, sched := false }).spliceOutcome seq 0, [.spliceUse]) := by
  rw [Lane.spliceLoad, if_neg (not_not.mpr mode), if_neg (not_not.mpr barred), if_neg (not_not.mpr image)]

/-- From CHECKED, a take in the window is named where the hold condition holds (R286, R292). -/
theorem Lane.spliceSchedule_checked {k : Word} (checked : x.vit.reg.stage = .checked) (clear : x.spliceClear = true)
    (soonest : 2 ≤ (k - x.vit.hdr.takeNum).toNat) (latest : (k - x.vit.hdr.takeNum).toNat ≤ 4096) :
    (x.spliceSchedule c seq k).vit.reg = { x.vit.reg with stage := .scheduled, commitTake := k, sched := true } := by
  have window : ¬ ((k - x.vit.hdr.takeNum).toNat < 2 ∨ 4096 < (k - x.vit.hdr.takeNum).toNat) := by omega
  rw [Lane.spliceSchedule, if_neg (not_not.mpr mode), if_neg (not_not.mpr (.inr (.inl checked))), if_neg window,
    if_neg (not_not.mpr clear), Lane.spliceOutcome_reg, Lane.onReg_reg, checked, if_neg (by decide)]

/-- Before its commit the splice ends, and its restriction is lifted (R285, R290). -/
theorem Lane.spliceAbort_accepted (inHand : x.vit.reg.stage ≠ .none) (uncommitted : x.vit.reg.stage ≠ .settling) :
    (x.spliceAbort c seq).2 = [.spliceEnd] ∧ (x.spliceAbort c seq).1.vit.reg = { shadowDrop x.vit.reg with
      stage := .none, spliceSet := 0, regRestrict := x.vit.reg.regRestrict &&& ~~~x.vit.reg.spliceSet, commitTake := 0,
      sched := false, settle := [] } := by
  rw [Lane.spliceAbort, if_neg (not_not.mpr mode), if_neg (not_or.mpr ⟨inHand, uncommitted⟩)]
  exact ⟨rfl, rfl⟩

end

/-! ### What the splice commands do in the module -/

section
variable (s : State) (set : BitVec 16) (l : LaneId) (mode : spliceMode s.cmdMode = true) (hs : s.rushing = true)
  (hl : (s.lane l).inP0 = true)
include mode hs hl

/-- SPLICE_BAR bars its set in the lanes, and leaves its marker (R285, R287, R288, R300). -/
theorem State.rushRow_spliceBar (nonempty : set ≠ 0) (size : popCount set 16 ≤ 14) (hv : s.voice.inP0 = true)
    (free : s.voice.vit.reg.stage = .none) (lfree : (s.lane l).vit.reg.stage = .none) :
    ((s.rushRow (.spliceBar set)).stg.marker.map (·.1)) = some set
      ∧ (s.rushRow (.spliceBar set)).take = s.take ∧ (s.rushRow (.spliceBar set)).sys = s.sys
      ∧ (s.rushRow (.spliceBar set)).fio = s.fio
      ∧ (s.rushRow (.spliceBar set)).lane l = (({ s.lane l with noticed := false }).onReg fun g => { g with
          stage := .barred, spliceSet := set, regRestrict := g.regRestrict ||| set, commitTake := 0, sched := false, settle := [] }
        ).spliceOutcome 0 0 := by
  have asks : (s.voice.rushCommand s.cmdCtx (.spliceBar set)).2 = [.marker set] :=
    congrArg Prod.snd (Lane.spliceBar_accepted 0 mode free nonempty size)
  have staging := asks ▸ List.forall_mem_singleton.mpr (ModReq.onStaging_marker set)
  have bars := congrArg Prod.fst (Lane.spliceBar_accepted (c := s.cmdCtx) 0 mode lfree nonempty size)
  refine ⟨?_, ?_, ?_, ?_, (s.rushRow_onStaging_lane _ hs staging hl).trans bars⟩
  · rw [s.rushRow_marker _ hs hv asks]; rfl
  all_goals rw [s.rushRow_onStaging _ hs staging]; rfl

/-- SPLICE_LOAD begins loading in the lanes, and takes the image into use (R291). -/
theorem State.rushRow_spliceLoad (hv : s.voice.inP0 = true) (barred : s.voice.vit.reg.stage = .barred)
    (image : s.verifiedSet = some s.voice.vit.reg.spliceSet) (lbarred : (s.lane l).vit.reg.stage = .barred)
    (same : (s.lane l).vit.reg.spliceSet = s.voice.vit.reg.spliceSet) :
    (s.rushRow .spliceLoad).stg.state = .inUse ∧ (s.rushRow .spliceLoad).stg.use = .splice
      ∧ (s.rushRow .spliceLoad).lane l = (({ s.lane l with mem := { (s.lane l).mem with loaded := 0 } }).onReg fun g =>
          { shadowDrop g with stage := .loading, commitTake := 0, sched := false }).spliceOutcome 0 0 := by
  have asks : (s.voice.rushCommand s.cmdCtx .spliceLoad).2 = [.spliceUse] :=
    congrArg Prod.snd (Lane.spliceLoad_accepted 0 mode barred image)
  have staging := asks ▸ List.forall_mem_singleton.mpr ModReq.onStaging_spliceUse
  have loads := congrArg Prod.fst (Lane.spliceLoad_accepted (c := s.cmdCtx) 0 mode lbarred (image.trans (congrArg some same.symm)))
  have unused : usesImage s.voice.vit.reg.stage = false := by rw [barred]; rfl
  rw [s.rushRow_stg_of_unused _ hs hv unused asks]
  exact ⟨rfl, rfl, (s.rushRow_onStaging_lane _ hs staging hl).trans loads⟩

/-- SPLICE_SCHEDULE names the commit take in the lanes, and changes nothing else (R292). -/
theorem State.rushRow_spliceSchedule (k : Word) (checked : (s.lane l).vit.reg.stage = .checked)
    (clear : (s.lane l).spliceClear = true) (soonest : 2 ≤ (k - (s.lane l).vit.hdr.takeNum).toNat)
    (latest : (k - (s.lane l).vit.hdr.takeNum).toNat ≤ 4096) :
    s.lanesOnly (s.rushRow (.spliceSchedule k)) ∧ ((s.rushRow (.spliceSchedule k)).lane l).vit.reg =
      { (s.lane l).vit.reg with stage := .scheduled, commitTake := k, sched := true } := by
  rw [s.rushRow_eq_rushLanes (.spliceSchedule k) hs rfl (fun x => x.spliceSchedule_stat _ 0 k)
    fun x => x.spliceSchedule_usesImage _ 0 k]
  refine ⟨⟨_, _, _, rfl⟩, ?_⟩
  rw [s.rushLanes_lane _ hl]
  exact Lane.spliceSchedule_checked 0 mode checked clear soonest latest

/-- SPLICE_ABORT ends the splice in the lanes; where the voice is one of them, the marker goes (R290, R300). -/
theorem State.rushRow_spliceAbort (inHand : (s.lane l).vit.reg.stage ≠ .none)
    (uncommitted : (s.lane l).vit.reg.stage ≠ .settling) :
    (l = s.voiceId → (s.rushRow .spliceAbort).stg.marker = none)
      ∧ ((s.rushRow .spliceAbort).lane l).vit.reg = { shadowDrop (s.lane l).vit.reg with
          stage := .none, spliceSet := 0, regRestrict := (s.lane l).vit.reg.regRestrict &&& ~~~(s.lane l).vit.reg.spliceSet
          commitTake := 0, sched := false, settle := [] } := by
  obtain ⟨asks, ends⟩ := Lane.spliceAbort_accepted (c := s.cmdCtx) 0 mode inHand uncommitted
  refine ⟨fun own => ?_, ?_⟩
  · subst own
    exact s.rushRow_marker .spliceAbort hs hl asks
  · rw [s.rushRow_onStaging_lane .spliceAbort hs (s.voice.spliceAbort_asks _ 0) hl]
    exact ends

end

/-! ### The statement, clause by clause -/

/-- SPLICE_BAR outside P0 is held, and its marker is journaled where no splice is in hand (R30, R300). -/
theorem exec_spliceBar_held (s : State) (set : BitVec 16) (hs : s.rushing = false) :
    ∃ t, exec (.spliceBar set) s = .next t ∧ t.take = { s.take with held := s.take.held ++ [.spliceBar set] }
      ∧ (s.voice.vit.reg.stage = .none → (t.stg.marker.map (·.1)) = some set) ∧ (s.voice.vit.reg.stage ≠ .none → t.stg = s.stg)
      ∧ t.laneA = s.laneA ∧ t.laneB = s.laneB ∧ t.laneC = s.laneC := by
  have journals := s.journalMarker_eq set
  have waits : (s.journalMarker set).rushing = false := by rw [journals]; exact hs
  refine ⟨_, congrArg Host.Outcome.next (State.rushRow_held _ (.spliceBar set) waits), ?_, fun free => ?_, fun inHand => ?_, ?_⟩
  · rw [journals]
  · rw [State.journalMarker, if_pos free]; rfl
  · rw [State.journalMarker, if_neg inHand]
  · rw [journals]; exact ⟨rfl, rfl, rfl⟩

/-- Settles O18, clause by clause. -/
theorem spliceCommandsAdvance : Obligations.SpliceCommandsAdvance := by
  refine ⟨fun s set l mode nonempty size hs hv free hl lfree => ?bar, fun s l mode hs hv barred image hl lbarred same => ?load,
    fun s k l mode hs hl checked clear soonest latest => ?schedule, fun s l mode hs hl stage => ?abort, exec_spliceBar_held⟩
  case bar =>
    have lane : (s.markerFor set).lane l = s.lane l := State.lane_with_stg ..
    obtain ⟨marker, take, sys, fio, bars⟩ :=
      (s.markerFor set).rushRow_spliceBar set l mode hs (lane ▸ hl) nonempty size hv free (lane ▸ lfree)
    have journals : s.journalMarker set = s.markerFor set := if_pos free
    refine ⟨_, congrArg (fun t => Host.Outcome.next (State.rushRow t (.spliceBar set))) journals, marker, take, sys, fio, ?_⟩
    rw [bars, lane]
    exact ⟨rfl, rfl, rfl⟩
  case load =>
    obtain ⟨state, use, loads⟩ := s.rushRow_spliceLoad l mode hs hl hv barred image lbarred same
    refine ⟨_, rfl, state, use, ?_⟩
    rw [loads]
    exact ⟨rfl, rfl, rfl, rfl, rfl⟩
  case schedule =>
    exact ⟨_, rfl, s.rushRow_spliceSchedule l mode hs hl k checked clear soonest latest⟩
  case abort =>
    have inHand : (s.lane l).vit.reg.stage ≠ .none := by rcases stage with h | h | h | h <;> simp [h]
    have uncommitted : (s.lane l).vit.reg.stage ≠ .settling := by rcases stage with h | h | h | h <;> simp [h]
    obtain ⟨marker, ends⟩ := s.rushRow_spliceAbort l mode hs hl inHand uncommitted
    refine ⟨_, rfl, marker, ?_⟩
    rw [ends]
    exact ⟨rfl, rfl, rfl, rfl⟩

end Sys2Proof.Machine
end

section
/-! SUPPORT. A frame on a ring port: where it goes on to, what its discard or acceptance leaves, and, from that, the statement about
FRAME_RECEIVE at an integrated node (R304, R305, R314 to R318). -/

namespace Sys2Proof.Machine

open Sys2Proof

/-! ### Notices of the network -/

/-- Events outside the sequencers' blocks. -/
theorem State.noticed_count (s : State) (first cnt : Nat) (code : Byte) (h : ¬ (192 ≤ first ∧ first < 216)) :
    s.noticed (s.count first cnt code) :=
  s.noticed_countN first cnt _ 1 h

theorem State.noticed_netFlag (s : State) (i ring : Nat) : s.noticed (s.netFlag i ring) :=
  State.noticed_trans (s.noticed_raise .net i) (State.noticed_record _ _ _ _)

theorem State.noticed_crcError (s : State) (ring : Ring) :
    (s.onRing ring fun x => { x with crcErr := satInc x.crcErr }).noticed (s.crcError ring) :=
  State.noticed_count _ _ _ _ (by decide)

@[simp] theorem State.onRing_watching (s : State) (r : Ring) (f : RingSt → RingSt) : (s.onRing r f).net.watching = s.net.watching := by
  cases r <;> rfl

@[simp] theorem State.crcError_watching (s : State) (ring : Ring) : (s.crcError ring).net.watching = s.net.watching := by
  rw [State.net_of_noticed (s.noticed_crcError ring), State.onRing_watching]

/-! ### Silence and forwarding -/

theorem State.fallSilent_of_not_due {s : State} (h : s.net.silentDue = false) : s.fallSilent = s := if_neg (by simp [h])

theorem State.awake_iff (s : State) : s.awake = true ↔ s.bypassed = false ∧ s.moduleWraps = false := by simp [State.awake]

/-- A node past its optical bypass forwards every frame but its own, unless it terminates its streams (R304, R305, R307). -/
theorem State.forward_of_awake {s : State} (ring : Ring) (rev : Bool) (f : Frame) (h : s.awake = true) :
    s.forward ring rev f
      = if s.net.terminating = true ∨ hSource f.hdr = s.net.node then s else { s with out := s.out ++ [.forward ring rev f] } := by
  obtain ⟨live, -⟩ := s.awake_iff.mp h
  simp only [State.forward, live, Bool.false_eq_true, false_or]
  rfl

theorem State.forward_eq (s : State) (ring : Ring) (rev : Bool) (f : Frame) : ∃ o, s.forward ring rev f = { s with out := o } := by
  unfold State.forward
  split
  · exact ⟨s.out, rfl⟩
  · exact ⟨_, rfl⟩

section
variable {s : State} (ring : Ring) (rev : Bool) (slot : BitVec 12) (ofs : Int) {f : Frame}
  (due : s.net.silentDue = false) (sync : s.net.sync = .integrated) (awake : s.awake = true)

include due sync awake

theorem exec_frameReceive_of_not_linkOk (watching : s.net.watching = false) (link : linkOk f = false) :
    exec (.frameReceive ring rev slot ofs f) s = .next ((s.forward ring rev f).crcError ring) := by
  show execFrameReceive ring rev slot ofs f s = _
  obtain ⟨o, fwd⟩ := s.forward_eq ring rev f
  rw [execFrameReceive, State.fallSilent_of_not_due due, fwd]
  simp [sync, show State.awake { s with out := o } = true from awake, watching, link]

theorem exec_frameReceive_of_headerOk (link : linkOk f = true) (other : hSource f.hdr ≠ s.net.node) (header : headerOk f.hdr = true) :
    exec (.frameReceive ring rev slot ofs f) s = .next ((s.forward ring rev f).checkedFrame ring rev slot ofs f) := by
  show execFrameReceive ring rev slot ofs f s = _
  obtain ⟨o, fwd⟩ := s.forward_eq ring rev f
  rw [execFrameReceive, State.fallSilent_of_not_due due, fwd]
  simp [sync, show State.awake { s with out := o } = true from awake, link, other, header]

end

/-! ### Acceptance (R314 to R318) -/

/-- The node takes frames from the stream: it is used, near enough, and has its grid (R306, R310, R316). -/
def StreamSt.serves (x : StreamSt) : Prop := x.use = true ∧ x.near = true ∧ x.grid = true

/-- The header is that of the call sheet entry of a slot that begins now, within the window (R314, R315, R330). -/
def State.expects (s : State) (slot : BitVec 12) (ofs : Int) (h : BitVec 64) : Prop :=
  s.slotTime slot = s.now ∧ hSlot h = slot ∧ ofs.natAbs ≤ 250 ∧ ∃ e, callEntry s.voice.data slot = some e ∧ s.entryFits e h = true

theorem State.slotTime_of_now {s : State} {slot : BitVec 12} (hs : s.now.slot = slot) (ht : s.now.tick = 0) : s.slotTime slot = s.now := by
  subst hs
  rw [State.slotTime, if_pos (by simp), ← ht]

/-- An expected session response on a stream that serves is accepted with its ring-port stamp (R338). -/
theorem State.checkedFrame_of_response {s : State} {ring : Ring} {rev : Bool} {slot : BitVec 12} {ofs : Int} {f : Frame}
    (serves : ((s.net.ring ring).stream rev).serves) (expects : s.expects slot ofs f.hdr) (kind : hKind f.hdr = 5) (len : hLen f.hdr = 48) :
    s.checkedFrame ring rev slot ofs f
      = ((s.reachTime (s.frameStamp s.now ring rev ofs)).frameOk ring slot (hSource f.hdr)).takeFrame
          { ring := ring, slot := slot, round := s.now.round, stamp := s.frameStamp s.now ring rev ofs, frame := f, was := none, gone := false } := by
  obtain ⟨use, near, grid⟩ := serves
  obtain ⟨now, hslot, window, e, entry, fits⟩ := expects
  simp [State.checkedFrame, kind, len, near, grid, use, now, hslot, entry, fits, Nat.not_lt.mpr window]

theorem State.reachTime_of_round {s : State} {t : NetTime} (h : t.round = s.now.round) : ∃ n, s.reachTime t = { s with now := n } := by
  unfold State.reachTime
  split
  · exact ⟨t, if_pos h.symm⟩
  · exact ⟨s.now, rfl⟩

/-- Beside the counter of its ring and its notices an accepted frame changes the network's and the pair's sight of its sender alone (R326,
R397, R402). -/
theorem State.frameOk_eq (s : State) (ring : Ring) (slot : BitVec 12) (src : NodeId) : ∃ (u : State) (seen : Bool) (p : PairSt),
    (s.onRing ring fun x => { x with rxOk := satInc x.rxOk }).noticed u
      ∧ s.frameOk ring slot src = { u with net := { u.net with noFrame := 0, holderSeen := seen }, pair := p } :=
  ⟨_, _, _, State.noticed_count _ _ _ _ (by decide), rfl⟩

/-- The first session response of a slot waits for the receive paths of the lanes (R318). -/
theorem State.takeFrame_of_response {s : State} {x : SlotRx} (first : s.net.slotRx = []) (kind : hKind x.frame.hdr = 5)
    (len : hLen x.frame.hdr = 48) :
    s.takeFrame x = { s with net := { s.net with slotRx := [{ x with was := none }], delivered := s.net.delivered ++ [x] } } := by
  simp [State.takeFrame, State.actFrame, first, kind, len]

/-- What a response leaves that is the first of its slot: it is counted and waits with its stamp, and lanes, take and field side stand. -/
theorem State.checkedFrame_first {s : State} {ring : Ring} {rev : Bool} {slot : BitVec 12} {ofs : Int} {f : Frame}
    (serves : ((s.net.ring ring).stream rev).serves) (expects : s.expects slot ofs f.hdr) (kind : hKind f.hdr = 5) (len : hLen f.hdr = 48)
    (round : (s.frameStamp s.now ring rev ofs).round = s.now.round) (first : s.net.slotRx = []) :
    let t := s.checkedFrame ring rev slot ofs f
    t.net.delivered = s.net.delivered ++ [{ ring := ring, slot := slot, round := s.now.round, stamp := s.frameStamp s.now ring rev ofs,
                                            frame := f, was := none, gone := false }]
      ∧ t.out = s.out ∧ (t.net.ring ring).rxOk = satInc (s.net.ring ring).rxOk ∧ t.net.noFrame = 0
      ∧ t.take = s.take ∧ t.sys = s.sys ∧ (∀ l : LaneId, t.lane l = s.lane l) ∧ t.fio = s.fio := by
  dsimp only
  obtain ⟨n, reached⟩ := State.reachTime_of_round round
  rw [State.checkedFrame_of_response serves expects kind len, reached]
  obtain ⟨u, seen, p, ⟨fl, ev, pm, re, rfl⟩, ok⟩ := State.frameOk_eq { s with now := n } ring slot (hSource f.hdr)
  rw [ok, State.takeFrame_of_response]
  case first => cases ring <;> exact first
  case kind => exact kind
  case len => exact len
  cases ring <;> exact ⟨rfl, rfl, rfl, rfl, rfl, rfl, fun l => by cases l <;> rfl, rfl⟩

/-- Settles O24, clause by clause. -/
theorem framesAreReceived : Obligations.FramesAreReceived := by
  refine ⟨fun s ring rev slot ofs f due sync awake watching link => ?crc,
    fun s ring rev slot ofs f e due sync awake watching link other header kind len hslot entry fits window use grid near now tick round
      first => ?response⟩
  case crc =>
    refine ⟨_, exec_frameReceive_of_not_linkOk ring rev slot ofs due sync awake watching link, ?_⟩
    rw [State.forward_of_awake ring rev f awake]
    exact State.noticed_crcError _ ring
  case response =>
    have serves : ((s.net.ring ring).stream rev).serves := ⟨use, decide_eq_true near, grid⟩
    have expects : s.expects slot ofs f.hdr := ⟨State.slotTime_of_now now tick, hslot, window, e, entry, fits⟩
    have forwarded : s.forward ring rev f
        = { s with out := s.out ++ (if s.net.terminating = true then [] else [.forward ring rev f]) } := by
      rw [State.forward_of_awake ring rev f awake]
      by_cases terminates : s.net.terminating = true
      · simp [terminates]
      · simp [terminates, other]
    refine ⟨_, exec_frameReceive_of_headerOk ring rev slot ofs due sync awake link other header, ?_⟩
    rw [forwarded]
    generalize s.out ++ (if s.net.terminating = true then [] else [.forward ring rev f]) = out
    exact State.checkedFrame_first (s := { s with out := out }) serves expects kind len round first

end Sys2Proof.Machine
end

section
/-! SUPPORT. What a timing set and a lost hop leave of a ring, what silence and a missed slate leave of the network, and, from that, the
statement about them (R306, R308 to R310, R331, R342). -/

namespace Sys2Proof.Machine

open Sys2Proof

/-! ### Ring ports (R306, R308, R309) -/

/-- What a port takes from the neighbour's timing set where its stream comes from the time master and is near enough. -/
theorem RingSt.timed_of_near (x : RingSt) (outPort : Bool) {path : BitVec 24} {hold : BitVec 16} {flags : Byte} {rtt : Nat}
    (comes : bit flags 0 = true) (near : path.toNat + (rtt - hold.toNat) / 2 ≤ pathLimit) :
    x.timed outPort path hold flags rtt
      = if outPort then { x with
          outSignal := true, hopOut := satNat 16 ((rtt - hold.toNat) / 2)
          rev := { x.rev with path := satNat 24 (path.toNat + (rtt - hold.toNat) / 2) } }
        else { x with
          inSignal := true, hopIn := satNat 16 ((rtt - hold.toNat) / 2)
          fwd := { x.fwd with path := satNat 24 (path.toNat + (rtt - hold.toNat) / 2) } } := by
  cases outPort <;> simp [RingSt.timed, RingSt.onStream, comes, Nat.not_lt.mpr near]

/-- A timing set with a good check, of a stream that is near enough: the port sends its own and takes the measurement. -/
theorem exec_timingSet {s : State} (ring : Ring) (outPort : Bool) {path : BitVec 24} {hold : BitVec 16} {flags : Byte} {rtt : Nat}
    (awake : s.awake = true) (comes : bit flags 0 = true) (near : path.toNat + (rtt - hold.toNat) / 2 ≤ pathLimit) :
    exec (.timingSet ring outPort path hold flags (crc8 (timingBytes path hold flags)) rtt) s
      = .next (State.onRing { s with free := s.free + 1, out := s.out ++ [s.timingSet ring outPort] } ring
          fun x => x.timed outPort path hold flags rtt) := by
  show execTimingSet _ _ _ _ _ _ _ s = _
  rw [execTimingSet, if_neg (by simp [awake]), if_neg (by simp), comes, decide_eq_false (Nat.not_lt.mpr near)]
  rfl

theorem exec_hopLost {s : State} (ring : Ring) (outPort : Bool) (awake : s.awake = true) :
    exec (.hopLost ring outPort) s
      = .next ((s.onRing ring fun x =>
          (if outPort then { x with outSignal := false } else { x with inSignal := false }).onStream outPort StreamSt.lost).netFlag 1
            (Ring.num ring)) :=
  if_neg (by simp [awake])

/-! ### Silence (R331) -/

theorem State.noticed_mergeReports (s : State) : (s.onLanes fun _ x => { x with report := [] }).noticed s.mergeReports :=
  State.noticed_foldl State.reelEnter State.noticed_reelEnter _ _

@[simp] theorem State.mergeReports_net (s : State) : s.mergeReports.net = s.net := by
  rw [State.net_of_noticed s.noticed_mergeReports, State.onLanes_net]

@[simp] theorem State.stopTakes_net (s : State) : s.stopTakes.net = s.net := by
  unfold State.stopTakes
  rw [State.switched_net]
  exact s.mergeReports_net

@[simp] theorem State.setMode_net (s : State) (m : Mode) : (s.setMode m).net = s.net := by
  obtain ⟨p, r, h⟩ := s.noticed_setMode m
  rw [State.net_of_noticed h]

@[simp] theorem State.leaveIntegrating_net (s : State) : s.leaveIntegrating.net = s.net := by
  unfold State.leaveIntegrating
  split
  · rw [State.setMode_net, State.stopTakes_net]
  · rfl

theorem State.leaveIntegrating_mode {s : State} (h : s.sys.mode = .integrating) : s.leaveIntegrating.sys.mode = .ready := by
  rw [State.leaveIntegrating, if_pos h, State.setMode_mode]

@[simp] theorem State.netFlag_net (s : State) (i ring : Nat) : (s.netFlag i ring).net = s.net := State.net_of_noticed (s.noticed_netFlag i ring)
@[simp] theorem State.netFlag_sys (s : State) (i ring : Nat) : (s.netFlag i ring).sys = s.sys := State.sys_of_noticed (s.noticed_netFlag i ring)
@[simp] theorem State.netFlag_now (s : State) (i ring : Nat) : (s.netFlag i ring).now = s.now := State.now_of_noticed (s.noticed_netFlag i ring)

/-- What the network state holds once the node has fallen silent. -/
def NetSt.silenced (n : NetSt) : NetSt :=
  { n.noGrids with
    sync := .silent, runSlates := 0, silentCnt := satInc n.silentCnt, master := false, starter := false, handover := none
    drift := 0, missRun := 0, guardRun := 0 }

theorem State.fallSilent_of_due {s : State} (h : s.net.silentDue = true) :
    s.fallSilent = (State.netFlag { s with net := s.net.silenced } 5 0).leaveIntegrating := if_pos h

theorem State.fallSilent_net {s : State} (h : s.net.silentDue = true) : s.fallSilent.net = s.net.silenced := by
  rw [State.fallSilent_of_due h, State.leaveIntegrating_net, State.netFlag_net]

theorem State.fallSilent_mode {s : State} (h : s.net.silentDue = true) (mode : s.sys.mode = .integrating) :
    s.fallSilent.sys.mode = .ready := by
  rw [State.fallSilent_of_due h, State.leaveIntegrating_mode (by rw [State.netFlag_sys]; exact mode)]

/-! ### A round without a slate (R331, R342) -/

/-- Where a later round begins and no handover is due, network time and what the network keeps of a round follow. -/
theorem State.reach_of_round_ne {s : State} {t : NetTime} (h : s.now.round ≠ t.round) (handover : s.net.handover = none) :
    (s.reach t).now = t ∧ (s.reach t).net = s.net.nextRound t.round (t.round.toNat - s.now.round.toNat) := by
  have noHandover : (s.net.nextRound t.round (t.round.toNat - s.now.round.toNat)).handover = none := handover
  rw [State.reach, if_neg h, State.newRound]
  dsimp only
  rw [noHandover]
  exact ⟨rfl, rfl⟩

/-- What the network state counts of a round that ends without a slate. -/
def NetSt.missed (n : NetSt) : NetSt :=
  { n with slateMiss := satInc n.slateMiss, missRun := n.missRun + 1, slateSrc := 3, drift := 0, runSlates := 0 }

theorem exec_slateMissed {s : State} (sync : s.net.sync = .integrated) (master : s.net.master = false)
    (noSlate : s.net.lastSlate.map (·.round) ≠ some s.now.round) :
    exec .slateMissed s = .next ((State.netFlag { s with net := s.net.missed } 4 0).reach (NetTime.atRound (s.now.round + 1))) := by
  show execSlateMissed s = _
  rw [execSlateMissed]
  dsimp only
  rw [if_neg (by simp [sync, master, noSlate]), State.netFlag_now]
  rfl

/-- Settles O26, clause by clause. -/
theorem ringPortsAndSilence : Obligations.RingPortsAndSilence := by
  refine ⟨⟨fun s ring outPort path hold flags rtt awake comes near => ?timing, fun s ring outPort awake => ?lost⟩,
    ⟨fun s due => ?silent, fun s due => ?stays⟩, fun s sync master handover noSlate => ?missed⟩
  case timing =>
    refine ⟨_, exec_timingSet ring outPort awake comes near, ?_⟩
    simp only [RingSt.timed_of_near _ outPort comes near]
    cases ring <;> exact ⟨⟨_, _, rfl⟩, rfl⟩
  case lost =>
    refine ⟨_, exec_hopLost ring outPort awake, ?_⟩
    cases outPort <;> exact State.noticed_netFlag _ _ _
  case silent =>
    refine ⟨_, rfl, ?_⟩
    rw [State.fallSilent_net due]
    exact ⟨rfl, rfl, rfl, rfl, State.fallSilent_mode due⟩
  case stays => exact congrArg Host.Outcome.next (State.fallSilent_of_not_due due)
  case missed =>
    obtain ⟨now, net⟩ := State.reach_of_round_ne (s := State.netFlag { s with net := s.net.missed } 4 0)
      (t := NetTime.atRound (s.now.round + 1)) (by simp [NetTime.atRound]) (by rw [State.netFlag_net]; exact handover)
    refine ⟨_, exec_slateMissed sync master noSlate, ?_⟩
    rw [net, now, State.netFlag_net]
    exact ⟨rfl, rfl, rfl, rfl, rfl, rfl⟩

end Sys2Proof.Machine
end

section
/-! SUPPORT. Which notices of the module leave the pair's sticky flags, and what a flag of PAIR_FLAGS leaves (R424, R552). -/

namespace Sys2Proof.Machine

open Sys2Proof

theorem FlagRegs.pair_set_of_ne (f : FlagRegs) {b : Blk} (w : Word) (h : b ≠ .pair) : (f.set b w).pair = f.pair := by
  cases b with
  | pair => exact absurd rfl h
  | _ => rfl

/-! ### Raising a flag

The chain of wraps that a raised flag may set off (R591) reaches the flags of the counters alone. -/

theorem State.flags_pmcBump (s : State) (first cnt : Nat) (e : PmcEvent) (n : Nat) : (s.pmcBump first cnt e n).1.flags = s.flags := by
  obtain ⟨p, bump⟩ := s.pmcBump_eq first cnt e n
  rw [bump]

theorem State.pairFlags_raiseN (k : Nat) : ∀ (s : State) (b : Blk) (i : Nat),
    (State.raiseN k s b i).flags.pair = (s.flags.set b (setBit (s.flags.get b) i true)).pair := by
  induction k with
  | zero => exact fun _ _ _ => rfl
  | succ k ih =>
    intro s b i
    have wraps : ∀ (t : State) (p : Bool) (j : Nat), (if p then State.raiseN k t .pmc j else t).flags.pair = t.flags.pair := by
      intro t p j
      cases p
      · rfl
      · exact ih t .pmc j
    by_cases fresh : i < 16 ∧ ¬ bit s.evt.pend (16 * b.num + i) = true
    · refine (congrArg (fun t : State => t.flags.pair) (if_pos fresh)).trans ?_
      exact (wraps _ _ 2).trans ((wraps _ _ 0).trans (congrArg FlagRegs.pair (State.flags_pmcBump _ _ _ _ _)))
    · exact congrArg (fun t : State => t.flags.pair) (if_neg fresh)

theorem State.pairFlags_raise (s : State) (i : Nat) : (s.raise .pair i).flags.pair = setBit s.flags.pair i true :=
  State.pairFlags_raiseN 3 s .pair i

theorem State.pairFlags_raise_of_ne (s : State) {b : Blk} (i : Nat) (h : b ≠ .pair) : (s.raise b i).flags.pair = s.flags.pair :=
  (State.pairFlags_raiseN 3 s b i).trans (s.flags.pair_set_of_ne _ h)

/-! ### Writing a record

A record raises flags of the Reel alone. -/

theorem State.pairFlags_raiseReel (s : State) (i : Nat) : (s.raise .reel i).flags.pair = s.flags.pair :=
  s.pairFlags_raise_of_ne i (by decide)

theorem State.pairFlags_raiseReelIf (s : State) (p : Bool) (i : Nat) : (s.raiseIf p .reel i).flags.pair = s.flags.pair := by
  cases p
  · rfl
  · exact s.pairFlags_raiseReel i

/-- Both sides of a choice keep the flags, so the choice keeps them. -/
theorem State.pairFlags_ite {c : Prop} [Decidable c] {w : Word} {t u : State} (ht : t.flags.pair = w) (hu : u.flags.pair = w) :
    (if c then t else u).flags.pair = w :=
  iteInduction (motive := fun x : State => x.flags.pair = w) (fun _ => ht) fun _ => hu

theorem State.pairFlags_reelFlush (s : State) : s.reelFlush.flags.pair = s.flags.pair :=
  State.pairFlags_ite rfl ((State.pairFlags_raiseReelIf _ _ _).trans (State.pairFlags_raiseReelIf _ _ _))

theorem State.pairFlags_reelFlushNow (s : State) : s.reelFlushNow.flags.pair = s.flags.pair :=
  State.pairFlags_ite s.pairFlags_reelFlush rfl

theorem State.pairFlags_reelBuffer (s : State) (b : RecBody) : (s.reelBuffer b).flags.pair = s.flags.pair :=
  State.pairFlags_ite (State.pairFlags_raiseReel _ _)
    (State.pairFlags_ite (State.pairFlags_ite (State.pairFlags_raiseReel _ _) rfl) rfl)

theorem State.pairFlags_reelEnter (s : State) (b : RecBody) : (s.reelEnter b).flags.pair = s.flags.pair := by
  have buffered : ∀ t : State, (t.reelBuffer b).reelFlushNow.flags.pair = t.flags.pair := fun t =>
    (State.pairFlags_reelFlushNow _).trans (t.pairFlags_reelBuffer b)
  refine State.pairFlags_ite rfl ?_
  cases reelBucket s.reel b.code with
  | none => exact buffered s
  | some k => exact State.pairFlags_ite (State.pairFlags_raiseReel _ _) (buffered _)

/-! ### A flag of PAIR_FLAGS -/

theorem State.noticed_pairFlag (s : State) (i : Nat) : s.noticed (s.pairFlag i) :=
  State.noticed_trans (s.noticed_raise .pair i) (State.noticed_record _ _ _ _)

theorem State.pairFlag_flags (s : State) (i : Nat) : (s.pairFlag i).flags.pair = setBit s.flags.pair i true :=
  (State.pairFlags_reelEnter _ _).trans (s.pairFlags_raise i)

theorem State.pairFlag_set (s : State) {i : Nat} (hi : i < 32) : bit (s.pairFlag i).flags.pair i = true := by
  rw [s.pairFlag_flags, bit_setBit_same _ _ hi]

theorem State.noticed_pairFlagIf (s : State) (c : Bool) (i : Nat) : s.noticed (s.pairFlagIf c i) := by
  cases c
  · exact s.noticed_refl
  · exact s.noticed_pairFlag i

end Sys2Proof.Machine
end

section
/-! SUPPORT. What the pair link and its messages leave of the pair state, and, from that, the statement about them (R49, R381 to R388,
R398). -/

namespace Sys2Proof.Machine

open Sys2Proof

/-! ### Notices beside another pair state -/

theorem State.noticed_with_pair {s t : State} (x : PairSt) (h : s.noticed t) : State.noticed { s with pair := x } { t with pair := x } := by
  obtain ⟨f, e, p, r, rfl⟩ := h
  exact ⟨f, e, p, r, rfl⟩

theorem State.noticed_with_take {s t : State} (x : TakeSt) (h : s.noticed t) : State.noticed { s with take := x } { t with take := x } := by
  obtain ⟨f, e, p, r, rfl⟩ := h
  exact ⟨f, e, p, r, rfl⟩

theorem State.noticed_linkCount (s : State) : s.noticed s.linkCount := s.noticed_count 216 16 0x67 (by decide)

/-! ### The link itself (R381, R382) -/

/-- The pair state once the link has gone down (R382). -/
def PairSt.unlinked (p : PairSt) : PairSt := { p with linkUp := false, linkDownCnt := satInc p.linkDownCnt }

theorem State.linkDown_of_up {s : State} (up : s.pair.linkUp = true) :
    s.linkDown = State.pairFlag { s with pair := s.pair.unlinked } 0 :=
  if_pos up

/-- Whether the link was up or not, it is down, and beside it only the count of its losses can differ. -/
theorem State.noticed_linkDown (s : State) :
    ∃ n, State.noticed { s with pair := { s.pair with linkUp := false, linkDownCnt := n } } s.linkDown := by
  by_cases up : s.pair.linkUp = true
  · exact ⟨_, State.linkDown_of_up up ▸ State.noticed_pairFlag _ 0⟩
  · refine ⟨s.pair.linkDownCnt, State.noticed_of_eq ((if_neg up).trans ?_)⟩
    rw [← Bool.eq_false_iff.mpr up]

/-- The link follows what the partner says of its receive side. -/
theorem State.noticed_linkFollows (s : State) (rxUp : Bool) :
    ∃ n, State.noticed { s with pair := { s.pair with linkUp := s.pair.linkUp && rxUp, linkDownCnt := n } }
      (if rxUp then s else s.linkDown) := by
  cases rxUp with
  | true => exact ⟨s.pair.linkDownCnt, State.noticed_of_eq (by rw [Bool.and_true]; rfl)⟩
  | false =>
    rw [Bool.and_false]
    exact s.noticed_linkDown

/-- What a valid HEARTBEAT says of the partner, kept (R381, log 71). -/
def PairSt.hears (p : PairSt) (node : NodeId) (mode : BitVec 4) (rxUp demoted : Bool) : PairSt :=
  { p with partMode := mode, demoted := demoted, partner := node, rxUp := true, partRxUp := rxUp }

/-- The module's own HEARTBEAT goes out (log 114). -/
def State.beats (s : State) : State := s.emit (.heartbeat s.net.node s.sys.mode.code true)

/-- A valid HEARTBEAT is counted and answered, and what it says of the partner is kept. -/
theorem exec_heartbeat {s : State} (node : NodeId) (mode : BitVec 4) (rxUp : Bool) (awake : s.awake = true) :
    ∃ (demoted : Bool) (u : State), State.noticed { s with pair := s.pair.hears node mode rxUp demoted } u
      ∧ exec (.heartbeat node mode rxUp true) s = .next (if rxUp then u.beats else u.beats.linkDown) := by
  have partner : ∃ demoted, (if s.sys.role = .lead then s.pair.setMode mode else { s.pair with partMode := mode })
      = { s.pair with partMode := mode, demoted := demoted } := by
    split
    · exact ⟨_, rfl⟩
    · exact ⟨s.pair.demoted, rfl⟩
  obtain ⟨demoted, partner⟩ := partner
  refine ⟨demoted, _, State.noticed_linkCount _, ?_⟩
  show execHeartbeat node mode rxUp true s = _
  rw [execHeartbeat, if_neg (not_not_intro ⟨rfl, awake⟩), partner]
  rfl

theorem heartbeat_namesPartner (s : State) (node : NodeId) (mode : BitVec 4) (rxUp : Bool) (awake : s.awake = true) :
    ∃ t, exec (.heartbeat node mode rxUp true) s = .next t ∧ t.pair.partner = node ∧ t.pair.partMode = mode
      ∧ t.pair.rxUp = true ∧ t.pair.partRxUp = rxUp ∧ t.pair.linkUp = (s.pair.linkUp && rxUp) ∧ t.take = s.take ∧ t.sys = s.sys
      ∧ t.out = s.out ++ [.heartbeat s.net.node s.sys.mode.code true] := by
  obtain ⟨demoted, u, heard, runs⟩ := exec_heartbeat node mode rxUp awake
  obtain ⟨n, follows⟩ := u.beats.noticed_linkFollows rxUp
  have pair : u.pair = s.pair.hears node mode rxUp demoted := State.pair_of_noticed heard
  refine ⟨_, runs, ?_⟩
  rw [State.pair_of_noticed follows, State.take_of_noticed follows, State.sys_of_noticed follows, State.out_of_noticed follows]
  show u.pair.partner = node ∧ u.pair.partMode = mode ∧ u.pair.rxUp = true ∧ u.pair.partRxUp = rxUp
    ∧ (u.pair.linkUp && rxUp) = _ ∧ u.take = _ ∧ u.sys = _ ∧ u.out ++ [.heartbeat u.net.node u.sys.mode.code true] = _
  rw [pair, State.take_of_noticed heard, State.sys_of_noticed heard, State.out_of_noticed heard, State.net_of_noticed heard]
  exact ⟨rfl, rfl, rfl, rfl, rfl, rfl, rfl, rfl⟩

/-- A link that goes down is flagged, and beside the pair state nothing else changes. -/
theorem State.linkDown_clears {s : State} (up : s.pair.linkUp = true) :
    s.linkDown.pair = s.pair.unlinked ∧ bit s.linkDown.flags.pair 0 = true
      ∧ s.linkDown.take = s.take ∧ s.linkDown.sys = s.sys ∧ s.linkDown.net = s.net := by
  have noticed := State.noticed_pairFlag { s with pair := s.pair.unlinked } 0
  rw [State.linkDown_of_up up, State.pair_of_noticed noticed, State.take_of_noticed noticed, State.sys_of_noticed noticed,
    State.net_of_noticed noticed]
  exact ⟨rfl, State.pairFlag_set _ (by decide), rfl, rfl, rfl⟩

theorem pairLinkDown_clears (s : State) (up : s.pair.linkUp = true) :
    ∃ t, exec .pairLinkDown s = .next t ∧ t.pair.linkUp = false ∧ t.pair.linkDownCnt = satInc s.pair.linkDownCnt
      ∧ bit t.flags.pair 0 = true ∧ t.take = s.take ∧ t.sys = s.sys ∧ t.net = s.net := by
  obtain ⟨pair, rest⟩ := State.linkDown_clears (s := { s with pair := { s.pair with rxUp := s.pair.rxUp && !s.pair.partRxUp } }) up
  exact ⟨_, rfl, (congrArg PairSt.linkUp pair).trans rfl, (congrArg PairSt.linkDownCnt pair).trans rfl, rest⟩

/-! ### Its messages (R382 to R388) -/

/-- Only the lead answers a DIGEST with AGREE (R387). -/
theorem State.tryAgree_of_not_lead {s : State} (role : s.sys.role ≠ .lead) : s.tryAgree = s := by
  unfold State.tryAgree
  dsimp only
  cases s.pair.ownDig with
  | none => rfl
  | some d => exact if_neg fun answers => role answers.1

/-- The second keeps the partner's DIGEST for L, and answers none (R387). -/
theorem State.partnerDigest_of_second {s : State} (take : Word) (d : Quad) (runs : s.takesRun = true) (role : s.sys.role = .second) :
    s.partnerDigest .link s.pair.partner take d
      = { s with pair := { s.pair with partDig := s.pair.partDig ++ [{ src := .link, take := take, digest := d }] } } := by
  have keeps : ¬ (¬ s.takesRun = true ∨ s.pair.partner ≠ s.pair.partner) := not_or.mpr ⟨not_not_intro runs, not_not_intro rfl⟩
  exact (if_neg keeps).trans (State.tryAgree_of_not_lead (role ▸ Role.noConfusion))

theorem digest_keptForL (s : State) (take claim : Word) (d : Quad) (uses : s.linkUses true = true) (runs : s.takesRun = true)
    (role : s.sys.role = .second) :
    ∃ t, exec (.digest .link s.pair.partner take claim d true) s = .next t
      ∧ State.noticed { s with pair := { s.pair with partDig := s.pair.partDig ++ [{ src := .link, take := take, digest := d }] } } t := by
  refine ⟨_, if_pos uses, ?_⟩
  obtain ⟨f, e, p, r, counted⟩ := s.noticed_linkCount
  rw [counted]
  exact ⟨f, e, p, r, State.partnerDigest_of_second (s := { s with flags := f, evt := e, pmc := p, reel := r }) take d runs role⟩

/-- Settles O30: the link and each of its messages. -/
theorem pairLinkAndItsMessages : Obligations.PairLinkAndItsMessages := by
  refine ⟨⟨heartbeat_namesPartner, pairLinkDown_clears, fun s awake rx part => ?up⟩, digest_keptForL,
    fun s take d uses role => ?agree, fun s n uses role heard => ?tlen, fun s n uses role other => ?resign⟩
  case up => exact ⟨_, if_pos ⟨awake, rx, part⟩, rfl⟩
  case agree => exact ⟨_, if_pos ⟨uses, by simp [role]⟩, State.noticed_with_pair _ s.noticed_linkCount⟩
  case tlen => exact ⟨_, if_pos ⟨uses, role, by simp [heard]⟩, State.noticed_with_take _ s.noticed_linkCount⟩
  case resign => exact ⟨_, if_pos ⟨uses, role, other⟩, State.noticed_with_pair _ s.noticed_linkCount⟩

end Sys2Proof.Machine
end

section
/-! SUPPORT. What EQUAL loads into an integrating module and what a loss leaves of the pair state, and, from that, the statement about
them (R397, R402, R403, R417). -/

namespace Sys2Proof.Machine

open Sys2Proof

/-! ### Vital state taken from the lead (R417) -/

theorem Lane.adopt_vit (x : Lane) (id : LaneId) (chain : List Image) (v : Vital) : (x.adopt id chain v).vit = v := by
  unfold Lane.adopt
  dsimp only
  split <;> rfl

theorem Lane.shadowPortion_vit (x : Lane) (id : LaneId) (i : Image) (set : BitVec 16) : (x.shadowPortion id i set).vit = x.vit := by
  unfold Lane.shadowPortion
  split
  · rfl
  · exact List.foldlRecOn (motive := fun y : Lane => y.vit = x.vit) _ _ rfl fun _ h _ _ => h

/-- The shadow planes are no part of the vital state. -/
theorem Lane.reloadShadow_vit (x : Lane) (id : LaneId) (img : Option Image) (loaded : Nat) :
    (x.reloadShadow id img loaded).vit = x.vit := by
  unfold Lane.reloadShadow
  dsimp only
  split
  · split
    · exact List.foldlRecOn (motive := fun y : Lane => y.vit = x.vit) _ _ rfl fun y h _ _ => (y.shadowPortion_vit _ _ _).trans h
    · rfl
  · rfl

/-- A lane that evaluates holds the lead's vital state as SECOND. -/
theorem State.loadEqual_vit (s : State) (v : Vital) (d : Quad) {l : LaneId} (h : (s.lane l).evaluates = true) :
    ((s.loadEqual v d).lane l).vit = { v with hdr := { v.hdr with role := .second } } := by
  have loads : ((s.loadEqual v d).lane l).vit
      = (((s.lane l).adopt l s.liveChain { v with hdr := { v.hdr with role := .second } }).reloadShadow l s.stagedImage
          (loadTakes v.reg.spliceSet)).vit := by
    cases l <;> exact (congrArg Lane.vit (if_pos h)).trans rfl
  rw [loads, Lane.reloadShadow_vit, Lane.adopt_vit]

/-- An EQUAL that is asked for loads its content, where its digest is that of its content. -/
theorem exec_equal {s : State} (v : Vital) (uses : s.linkUses true = true) (mode : s.sys.mode = .integrating)
    (asked : s.pair.loaded = false) :
    exec (.equal v (vitalDigest v) true) s = .next (s.linkCount.loadEqual v (vitalDigest v)) :=
  (if_pos ⟨uses, mode, .inr (by simp [asked])⟩).trans (if_pos rfl)

/-! ### Losses (R397, R402, R403) -/

/-- Network time that stands at the slot of a command stays. -/
theorem State.reachSlot_of_now {s : State} {slot : BitVec 12} (hs : s.now.slot = slot) (ht : s.now.tick = 0) : s.reachSlot slot = s := by
  show (if s.now.ticks ≤ (s.slotTime slot).ticks then s.reach (s.slotTime slot) else s) = s
  rw [State.slotTime_of_now hs ht]
  exact (if_pos (Nat.le_refl _)).trans (if_pos rfl)

theorem exec_leadResignTimeout {s : State} (role : s.sys.role = .lead) (runs : s.sys.mode.runs = true) (up : s.pair.linkUp = true)
    (rings : 4 ≤ s.net.noFrame) (first : s.pair.resigned = false) :
    exec .leadResignTimeout s = .next
      ((State.emit { s with pair := { s.pair with resigned := true, sending := false } } (.resign s.net.node)).pairFlag 10) :=
  if_pos ⟨role, runs, up, rings, by simp [first]⟩

theorem exec_partnerLost {s : State} (slot : s.now.slot = 2776) (tick : s.now.tick = 0) (unseen : s.pair.unseen = true)
    (claims : s.claims = true) (first : s.pair.lost = false) (known : s.pair.partner ≠ 0) :
    exec .partnerLost s = .next
      (State.pairFlag { s with pair := { s.pair with lost := true, granted := false, lostCnt := satInc s.pair.lostCnt } } 4) := by
  have now := State.reachSlot_of_now slot tick
  refine (if_neg ?counts).trans ?lost
  case counts =>
    rw [now]
    simp [unseen, claims, first]
  case lost => rw [now, decide_eq_false known, Bool.and_false]

/-- Settles O32: EQUAL, and each of the three losses. -/
theorem equalizationAndLosses : Obligations.EqualizationAndLosses := by
  refine ⟨fun s v uses mode asked => ?equal, fun s role runs up rings first => ?resigns,
    fun s slot tick unseen claims first known => ?partner, fun s claims rounds => ?witness⟩
  case equal =>
    have counted := s.noticed_linkCount
    refine ⟨_, exec_equal v uses mode asked, rfl, rfl, ?_, rfl, rfl, fun l h => ?_⟩
    · exact (congrArg SysSt.mode (State.sys_of_noticed counted)).trans mode
    · exact State.loadEqual_vit _ v _ (by rw [State.lane_of_noticed counted]; exact h)
  case resigns =>
    refine ⟨_, exec_leadResignTimeout role runs up rings first, ?_⟩
    rw [State.pair_of_noticed (State.noticed_pairFlag _ _), State.out_of_noticed (State.noticed_pairFlag _ _),
      State.take_of_noticed (State.noticed_pairFlag _ _)]
    exact ⟨rfl, rfl, State.pairFlag_set _ (by decide), rfl⟩
  case partner =>
    refine ⟨_, exec_partnerLost slot tick unseen claims first known, ?_⟩
    rw [State.pair_of_noticed (State.noticed_pairFlag _ _), State.take_of_noticed (State.noticed_pairFlag _ _),
      State.sys_of_noticed (State.noticed_pairFlag _ _)]
    exact ⟨rfl, State.pairFlag_set _ (by decide), rfl, rfl⟩
  case witness => exact ⟨_, if_pos ⟨claims, rounds⟩, State.noticed_pairFlag _ _, State.pairFlag_set _ (by decide)⟩

end Sys2Proof.Machine
end

section
/-! SUPPORT. When a self-test acts and when the coordinator queues a wrap of a lane, and, from that, the statement about them (R404, R405,
R410, R411). -/

namespace Sys2Proof.Machine

open Sys2Proof

/-- The pair state after a self-test (R404, R405). -/
def PairSt.tested (p : PairSt) (i : Nat) (pass : Bool) : PairSt :=
  { p with stAges := p.stAges.set i 0, stDone := setBit p.stDone i true, stFail := setBit p.stFail i (!pass), bad := p.bad || !pass }

/-- A test whose turn it is acts, and a failure is flagged. -/
theorem exec_selfTest {s : State} {i : BitVec 3} (pass : Bool) (runs : s.sys.mode.runs = true) (turn : s.take.num.toNat % 8 = i.toNat)
    (skipped : i = 4 → s.sys.mode ≠ .degraded) :
    exec (.selfTest i pass) s = .next (State.pairFlagIf { s with pair := s.pair.tested i.toNat pass } (!pass) 11) := by
  have four : i.toNat = 4 → s.sys.mode ≠ .degraded := fun h => skipped (BitVec.eq_of_toNat_eq h)
  exact if_neg (by simpa [runs, turn] using four)

/-- The command that the coordinator queues for a wrap of the next lane (R411, R541). -/
def State.wrapCommand (s : State) : LocalMsg :=
  { words := draftWords 0x102 0 [0, 0, 0] [place 32 0 s.pair.cycleNext], sid := none, msgId := 0 }

theorem exec_wrapStartDecision {s : State} (up : s.coordUp = true) (allowed : s.wrapAllowed = true) (first : s.pair.cycleOn = false)
    (empty : s.port.locals = []) :
    exec .wrapStartDecision s = .next { s with port := { s.port with locals := [s.wrapCommand] } } := by
  have decides : s.coordUp = true ∧ s.wrapAllowed = true ∧ (¬ s.pair.cycleOn = true ∨ 1000 ≤ (s.take.num - s.pair.cycleFrom).toNat)
      ∧ ¬ (s.port.locals.any fun (m : LocalMsg) => decide (field (mbxWord m.words 0) 0 16 = 0x102#16)) = true :=
    ⟨up, allowed, .inl (by simp [first]), by simp [empty]⟩
  have queued : s.port.locals ++ [s.wrapCommand] = [s.wrapCommand] := by rw [empty, List.nil_append]
  rw [← queued]
  exact if_pos decides

/-- The command names LANE_WRAP and the lane whose turn it is. -/
theorem State.wrapCommand_words (s : State) : field (mbxWord s.wrapCommand.words 0) 0 16 = 0x102#16
    ∧ mbxWord s.wrapCommand.words 8 = s.pair.cycleNext.zeroExtend 32 :=
  ⟨rfl, BitVec.shiftLeft_zero _⟩

/-- Settles O34, command by command. -/
theorem selfTestsAndWrapCycle : Obligations.SelfTestsAndWrapCycle := by
  refine ⟨fun s i pass runs turn skipped => ?test, fun s up allowed first empty => ?wrap⟩
  case test =>
    refine ⟨_, exec_selfTest pass runs turn skipped, State.noticed_pairFlagIf _ _ _, ?_⟩
    rintro rfl
    exact State.pairFlag_set _ (by decide)
  case wrap => exact ⟨_, exec_wrapStartDecision up allowed first empty, s.wrapCommand, rfl, s.wrapCommand_words⟩

end Sys2Proof.Machine
end
